-- ==== Sys2Proof/Word.lean ====
section
/-! DEFINITION. The word types of the LS-2216: bytes of the loop, 16-bit check words and swap count, 32-bit
addresses and control words (spec/00_scope.md, "Byte order"). -/

namespace Sys2Proof

/-- One byte of the loop or of local data. -/
abbrev Byte := BitVec 8

/-- A check word (R6), or the swap count (R58). -/
abbrev Half := BitVec 16

/-- A loop address, a local address or a control word. -/
abbrev Word := BitVec 32

end Sys2Proof
end

