-- ==== Sys2Proof/Syntax.lean ====
section
/-! DEFINITION. The commands of the LS-2216: one constructor of `Instr` per row of spec/opcode_table.json, with
what the outside world supplies for it (the run of bytes that arrives, the levels sampled at an edge). -/

namespace Sys2Proof

/-- What every parcel command carries beside its own fields: the header fields the master chooses freely (R8), and
how many byte times LFI was low before the parcel's first byte (R2). -/
structure Envelope where
  /-- Byte times with LFI low before the run; runs separate wherever LFI is low for at least one (R2). -/
  gap   : Nat
  dest  : BitVec 5
  group : BitVec 3
  tag   : Byte
  mark  : Byte
  deriving DecidableEq, Repr

/-- A parcel's header and payload (R8). LENGTH is the payload's length and CHECK stands apart from it. -/
structure Parcel where
  dest    : BitVec 5
  group   : BitVec 3
  kind    : BitVec 4
  /-- SPACE: true is CONTROL. -/
  control : Bool
  damaged : Bool
  /-- The two must-be-zero bits of byte 1. -/
  zeros   : BitVec 2
  tag     : Byte
  mark    : Byte
  address : Word
  payload : List Byte
  deriving DecidableEq, Repr

/-- The commands: what the loop, the local bus, the two input lines and the supplies do to the part. A parcel command
is the arrival of the whole run whose bytes its operands spell (R3); an edge command is a rising edge of LCLK at which
the levels its row names are sampled (R125). -/
inductive Instr where
  /-- POWER_ON (R34): power-on reset ends with LRST# and LFI at the levels given. -/
  | powerOn (lrstHigh lfiHigh : Bool)
  /-- RUN_DROPPED (R4): the first byte of a run arrives, `gap` byte times after the last run. -/
  | runDropped (gap : Nat)
  /-- OVERLONG_RUN (R4): a run arrives up to its 267th byte. -/
  | overlongRun (gap : Nat) (run : List Byte)
  /-- FRAMING_FAULT (R6): a run of these bytes ends. -/
  | framingFault (gap : Nat) (run : List Byte)
  /-- DAMAGED (R7): a parcel arrives with the check word given. -/
  | damaged (gap : Nat) (parcel : Parcel) (check : Half)
  /-- NOT_OWN_PARCEL (R38): a good parcel arrives. -/
  | notOwnParcel (gap : Nat) (parcel : Parcel)
  /-- PARCEL_SEND (R3): byte times pass until the next queued parcel begins leaving. -/
  | parcelSend
  /-- MALFORMED_PARCEL (R40): a good parcel arrives whose header may fail the form check. -/
  | malformedParcel (gap : Nat) (parcel : Parcel)
  /-- MEMORY_READ (R50). -/
  | memoryRead (e : Envelope) (address : Word) (readLength : Byte)
  /-- MEMORY_WRITE (R51). -/
  | memoryWrite (e : Envelope) (address : Word) (data : List Byte)
  /-- STAGE (R103): the group is the envelope's. -/
  | stage (e : Envelope) (address : Word) (data : List Byte)
  /-- COMMIT (R105): ADDRESS is unused and carried through (R9). -/
  | commit (e : Envelope) (address : Word)
  /-- DISCARD (R108). -/
  | discard (e : Envelope) (address : Word)
  /-- SWEEP (R152): the address is the sweep address field (R11), the slots the payload (R12). -/
  | sweep (e : Envelope) (address : Word) (slots : List Byte)
  /-- STEP (R142). -/
  | step (e : Envelope) (address : Word) (credits : Byte)
  /-- NUMBER (R26): the address is v. -/
  | number (e : Envelope) (v : Word)
  /-- LOOPRESET (R32). -/
  | loopReset (e : Envelope) (address : Word)
  /-- CONTROL_READ (R55). -/
  | controlRead (e : Envelope) (address : Word) (readLength : Byte)
  /-- CONTROL_WRITE (R48): any control WRITE, of one word or several. -/
  | controlWrite (e : Envelope) (address : Word) (payload : List Byte)
  /-- GATE (R141): a control WRITE of the word at 008h. -/
  | gate (e : Envelope) (word : Word)
  /-- LOCAL_LIMIT (R173): a control WRITE of the word at 00Ch. -/
  | localLimit (e : Envelope) (word : Word)
  /-- SWAP (R71): a control WRITE of 00000001h at 010h. -/
  | swap (e : Envelope)
  /-- COPY (R69): a control WRITE of 00000002h at 010h. -/
  | copy (e : Envelope)
  /-- CLEAR_TALLIES (R175): a control WRITE of 00000003h at 010h. -/
  | clearTallies (e : Envelope)
  /-- LOCAL_RESET (R135): a control WRITE of 00000004h at 010h. -/
  | localReset (e : Envelope)
  /-- STANDBY_BANK_WRITE (R67): a control WRITE whose first word is word `wordIndex`, 0 to 63, of the standby bank. -/
  | standbyBankWrite (e : Envelope) (wordIndex : BitVec 6) (words : List Word)
  /-- ISSUE (R82). -/
  | issue
  /-- GRANT (R126): an edge with LGNT high, whatever stands on LERR, LWAIT and LD. -/
  | grant (lerr lwait : Bool) (ld : BitVec 64)
  /-- BEAT_DONE (R128): an edge with LGNT high, LERR low and LWAIT low. -/
  | beatDone (ld : BitVec 64)
  /-- COMPLETION (R131): an edge with LGNT high, LERR low and LWAIT low. -/
  | completion (ld : BitVec 64)
  /-- GRANT_TIMEOUT (R126): an edge with LGNT low. -/
  | grantTimeout
  /-- WAIT_TIMEOUT (R129): an edge with LGNT high, LERR low and LWAIT high. -/
  | waitTimeout
  /-- GRANT_LOST (R127): an edge with LGNT low, whatever stands on LERR and LWAIT. -/
  | grantLost (lerr lwait : Bool)
  /-- BUS_ERROR (R127): an edge with LGNT high and LERR high, whatever stands on LWAIT. -/
  | busError (lwait : Bool)
  /-- LRST_FALL (R134). -/
  | lrstFall
  /-- LRST_RISE (R136). -/
  | lrstRise
  /-- ATTN_RISE (R168). -/
  | attnRise
  /-- GRANT_WAIT_EDGE (R126): an edge with LGNT low. -/
  | grantWaitEdge
  /-- BEAT_STRETCHED (R127): an edge with LGNT high, LERR low and LWAIT high. -/
  | beatStretched
  /-- SUPPLY_BELOW_RANGE (R34). -/
  | supplyBelowRange
  /-- LFI_FALLS (R4): LFI falls after `discarded` more byte times of the run being discarded. -/
  | lfiFalls (discarded : Nat)
  /-- DAMAGED_SET_ON_ARRIVAL (R7): a parcel arrives with a right check word and DAMAGED set. -/
  | damagedSetOnArrival (gap : Nat) (parcel : Parcel)
  deriving DecidableEq, Repr

end Sys2Proof
end

