-- ==== Sys2Proof/Decode.lean ====
section
/-! DEFINITION. The commands that table words spell. No row of spec/opcode_table.json gives bits (log entry 3), so no word
spells a command. -/

namespace Sys2Proof

/-- The command a word of `nbits` bits spells: none, since no row of the table gives bits. -/
def decodeTableWord (_nbits _w : Nat) : Option Instr := none

end Sys2Proof
end

