-- ==== Sys2Proof/Config.lean ====
section
/-! DEFINITION. The constants the manual fixes for every LS-2216, and the one free value of the model. -/

namespace Sys2Proof.Config

/-- Bytes of the forwarding buffer (R4). -/
@[simp] def bufferBytes : Nat := 1024

/-- The longest run that is a parcel (R2), and the free room a run needs when it begins (R4). -/
@[simp] def maxRun : Nat := 266

/-- Idle byte times before a parcel leaves (R3). -/
@[simp] def gapTimes : Nat := 2

/-- Journal positions (R74). -/
@[simp] def journalRoom : Nat := 32

/-- Places of the reply queue (R149). -/
@[simp] def replyRoom : Nat := 16

/-- Places of the fault list (R164). -/
@[simp] def faultRoom : Nat := 4

/-- Where the lost-fault count saturates (R166). -/
@[simp] def lostCap : Nat := 255

/-- Where the credit count saturates (R142). -/
@[simp] def creditCap : Nat := 15

/-- Where a tally saturates (R175). -/
@[simp] def tallyCap : Nat := 65535

/-- Where a wait count saturates (R120). -/
@[simp] def waitCap : Nat := 4080

/-- The local limit after power-on and loop reset (R130, R173). -/
@[simp] def resetLimit : Byte := 64#8

/-- The IDENT word (R172). -/
@[simp] def ident : Word := 0xC7221601#32

/-- The size of the loop and local address spaces in bytes. -/
@[simp] def addressSpace : Nat := 4294967296

/-- FREE VALUE (log entry 2). While power-on reset holds the part the manual states LREQ and LD alone (R34, R138):
what LA, LBE and LRW carry then is open. Bits 37-9 are LA, bits 8-1 LBE, bit 0 LRW; the argument is the count of
spans of power-on reset the model has drawn for. -/
opaque heldBus : Nat → BitVec 38

end Sys2Proof.Config
end

