-- ==== Sys2Proof/Machine/State.lean ====
section
/-! DEFINITION. Everything the manual gives the LS-2216 to hold, block by block (spec/00_scope.md, "Block overview"),
as plain data, and the state after power-on reset. -/

namespace Sys2Proof.Machine

/-! ### Loop port (R1 to R4, R23) -/

/-- Loop state and node number (R23): the number is present exactly while NUMBERED. -/
inductive LoopState where
  | unnumbered
  | numbered (n : BitVec 5)
  deriving DecidableEq, Repr

/-- A run waiting in the forwarding buffer, exactly as it will leave (R3). -/
structure Queued where
  bytes  : List Byte
  /-- Byte times since the one its last byte arrived in, up to 2. -/
  waited : Nat
  deriving DecidableEq, Repr

/-- What LCO does: low in power-on reset (R34), else a clock at the frequency of LCI (R1). -/
inductive ByteClock where
  | low
  | running
  deriving DecidableEq, Repr

/-- The loop port: loop state, forwarding buffer, and the loop-out pins LFO, LDO and LCO. -/
structure LoopPort where
  loopState  : LoopState
  /-- Runs not yet begun, in arrival order. -/
  buffer     : List Queued
  /-- Bytes of the run being sent that have not left yet. -/
  sending    : List Byte
  /-- Idle byte times on loop-out since the last byte sent, up to 2. -/
  idle       : Nat
  /-- Loop-in is discarding the bytes of a run until LFI falls (R4). -/
  discarding : Bool
  lfo        : Bool
  ldo        : Byte
  lco        : ByteClock
  deriving DecidableEq, Repr

/-- The loop port when power-on reset ends (R33, R34): UNNUMBERED, buffer empty, LFO low, LDO 00h. -/
def LoopPort.atReset : LoopPort where
  loopState := .unnumbered
  buffer := []
  sending := []
  idle := 2
  discarding := false
  lfo := false
  ldo := 0#8
  lco := .running

/-- The loop port while power-on reset holds the part (R34): LFO and LCO low, LDO 00h. -/
def LoopPort.inReset : LoopPort := { LoopPort.atReset with lco := .low }

/-! ### Window table (R58, R59) -/

inductive Bank where
  | a
  | b
  deriving DecidableEq, Repr

/-- One window entry (R59): LOOP BASE and LOCAL BASE by the bits that may be non-zero (R16). -/
structure WindowEntry where
  valid     : Bool
  /-- LOOP BASE divided by 256. -/
  loopPage  : BitVec 24
  size      : BitVec 24
  /-- LOCAL BASE divided by 8. -/
  localUnit : BitVec 29
  r         : Bool
  w         : Bool
  s         : Bool
  deriving DecidableEq, Repr

/-- Every field 0 (R60). -/
def WindowEntry.zero : WindowEntry where
  valid := false
  loopPage := 0#24
  size := 0#24
  localUnit := 0#29
  r := false
  w := false
  s := false

/-- Two banks, the active-bank selector and the swap count (R58). -/
structure WindowTable where
  bankA     : Vector WindowEntry 16
  bankB     : Vector WindowEntry 16
  active    : Bank
  swapCount : Half
  deriving DecidableEq, Repr

/-- After power-on and loop reset (R60). -/
def WindowTable.atReset : WindowTable where
  bankA := Vector.replicate 16 WindowEntry.zero
  bankB := Vector.replicate 16 WindowEntry.zero
  active := .a
  swapCount := 0#16

/-! ### Transaction journal (R74 to R76) -/

/-- KIND and, for a staged write, GROUP. -/
inductive EntryKind where
  | read
  | posted
  | staged (group : BitVec 3)
  deriving DecidableEq, Repr

inductive EntryState where
  | waiting
  | parked
  | issued
  deriving DecidableEq, Repr

/-- One journal entry (R75); `data` is empty for a READ, whose DATA is absent. -/
structure Entry where
  kind    : EntryKind
  tag     : Byte
  address : Word
  length  : Nat
  data    : List Byte
  state   : EntryState
  deriving DecidableEq, Repr

/-! ### Outcomes and STATUS (R13) -/

inductive Status where
  | ok
  | busError
  | grantTimeout
  | waitTimeout
  | grantLost
  | abandoned
  deriving DecidableEq, Repr

/-! ### Group table (R100) -/

inductive GroupState where
  | empty
  | opened
  | committing
  deriving DecidableEq, Repr

/-- One staging group record (R100); `first` is the first failed TAG and STATUS. -/
structure Group where
  state      : GroupState
  entryCount : Nat
  commitTag  : Option Byte
  written    : Nat
  failed     : Nat
  abandoned  : Nat
  first      : Option (Byte × Status)
  deriving DecidableEq, Repr

/-- The cleared record (R100, R102). -/
def Group.cleared : Group where
  state := .empty
  entryCount := 0
  commitTag := none
  written := 0
  failed := 0
  abandoned := 0
  first := none

/-! ### Local executor (R120, R121) -/

/-- The operation record (R120). The beat list is the function `beatCount`, `beatAddress` of address and length. -/
structure Operation where
  kind     : EntryKind
  tag      : Byte
  address  : Word
  length   : Nat
  data     : List Byte
  /-- The current beat index. -/
  beat     : Nat
  /-- The wait count. -/
  wait     : Nat
  /-- The bytes a READ has gathered, in ascending local address order. -/
  gathered : List Byte
  deriving DecidableEq, Repr

/-- The executor state, with its operation record while an operation is in flight (R120). -/
inductive Executor where
  | idle
  | requesting (op : Operation)
  | transferring (op : Operation)
  | reset
  deriving DecidableEq, Repr

/-- The local bus outputs (R121); `ld` is absent while LD is not driven. -/
structure BusPins where
  lreq : Bool
  la   : BitVec 29
  lbe  : BitVec 8
  lrw  : Bool
  ld   : Option (BitVec 64)
  deriving DecidableEq, Repr

/-- The idle pattern (R121). -/
def BusPins.idle : BusPins where
  lreq := false
  la := 0#29
  lbe := 0#8
  lrw := true
  ld := none

/-! ### Gate (R140) -/

inductive GateMode where
  | opened
  | held
  deriving DecidableEq, Repr

structure Gate where
  mode    : GateMode
  credits : Nat
  deriving DecidableEq, Repr

/-- After power-on and loop reset (R145). -/
def Gate.atReset : Gate where
  mode := .opened
  credits := 0

/-! ### Reply unit (R148, R164, R168) -/

/-- RKIND, STATUS and contents of a reply entry (R13, R151). -/
inductive ReplyBody where
  | readData (bytes : List Byte)
  | readError (status : Status)
  | controlData (bytes : List Byte)
  | commitDone (status : Status) (written failed abandoned : Nat) (first : Option (Byte × Status))
  | discardDone (removed : Nat)
  deriving DecidableEq, Repr

/-- A reply entry (R148): CARRIED under the number in `carrying`, QUEUED while that is absent. -/
structure ReplyEntry where
  tag      : Byte
  body     : ReplyBody
  carrying : Option Byte
  deriving DecidableEq, Repr

/-- What a fault record reports (R164). -/
inductive FaultCause where
  | postedWriteFailed (status : Status) (tag : Byte) (address : Word) (beat : Nat)
  | localReset (lostPosted : Nat)
  deriving DecidableEq, Repr

/-- A fault record (R164); `carrying` as for a reply entry. -/
structure FaultRecord where
  cause      : FaultCause
  lostBefore : Nat
  carrying   : Option Byte
  deriving DecidableEq, Repr

/-- The attention report (R168): REPEAT and the carrying number are present only while CARRIED. -/
inductive Attention where
  | idle
  | pending
  | carried (number : Byte) (again : Bool)
  deriving DecidableEq, Repr

structure ReplyUnit where
  queue        : List ReplyEntry
  reservations : Nat
  faults       : List FaultRecord
  lostFaults   : Nat
  attention    : Attention
  deriving DecidableEq, Repr

/-- After power-on and loop reset (R161, R167, R170). -/
def ReplyUnit.atReset : ReplyUnit where
  queue := []
  reservations := 0
  faults := []
  lostFaults := 0
  attention := .idle

/-! ### Control space (R173, R175) -/

/-- The eleven tallies in address order (R19). -/
structure Tallies where
  taken         : Nat
  full          : Nat
  window        : Nat
  rights        : Nat
  group         : Nat
  form          : Nat
  controlTally  : Nat
  localTally    : Nat
  damaged       : Nat
  framing       : Nat
  slots         : Nat
  deriving DecidableEq, Repr

/-- All 0 (R175). -/
def Tallies.zero : Tallies where
  taken := 0
  full := 0
  window := 0
  rights := 0
  group := 0
  form := 0
  controlTally := 0
  localTally := 0
  damaged := 0
  framing := 0
  slots := 0

/-! ### The node -/

/-- The whole node. -/
structure State where
  /-- Both supplies are in range and power-on reset is over (R34). -/
  powered   : Bool
  loop      : LoopPort
  windows   : WindowTable
  /-- The journal, oldest entry first (R74). -/
  journal   : List Entry
  groups    : Vector Group 8
  executor  : Executor
  /-- The level of LRST# the executor took last is low (R137). -/
  lrstLow   : Bool
  bus       : BusPins
  gate      : Gate
  replies   : ReplyUnit
  /-- The local limit L (R130). -/
  limit     : Byte
  tallies   : Tallies
  /-- The model's own: spans of power-on reset drawn for so far, the argument of `Config.heldBus` (log entry 2). -/
  heldDraws : Nat
  /-- The model's own: the commands that wait, first in, first out. -/
  pending   : List Instr
  deriving DecidableEq, Repr

/-- Why the machine stops with a fault. -/
inductive Fault where
  /-- A fall of LRST# while the level taken last is low. Raised by LRST_FALL alone. Safe: R133 says falls and rises
  alternate, so the hardware is never given one. -/
  | lrstAlreadyLow
  /-- A rise of LRST# while the level taken last is high. Raised by LRST_RISE alone. Safe: R136 says such a rise cannot
  occur. -/
  | lrstAlreadyHigh
  deriving DecidableEq, Repr

/-- Why the model gives a command no meaning. -/
inductive Refusal where
  /-- A command of the table that has no meaning yet. Raised by `exec`'s arms alone; no arm of this model does. Safe. -/
  | notModelled (mnemonic : String)
  deriving DecidableEq, Repr

/-- The node right after power-on reset with LRST# high and LFI low (R34, R138). -/
def State.reset : State where
  powered := true
  loop := LoopPort.atReset
  windows := WindowTable.atReset
  journal := []
  groups := Vector.replicate 8 Group.cleared
  executor := .idle
  lrstLow := false
  bus := BusPins.idle
  gate := Gate.atReset
  replies := ReplyUnit.atReset
  limit := Config.resetLimit
  tallies := Tallies.zero
  heldDraws := 0
  pending := []

end Sys2Proof.Machine
end

