-- ==== Sys2Proof/Machine/Operands.lean ====
section
/-! DEFINITION. The operand forms: byte order, the check word, a parcel's bytes and their reading back (R6, R8), and
the fields a payload or an ADDRESS spells (R11, R15). -/

namespace Sys2Proof

/-- The four bytes of a word, most significant first. -/
def wordBytes (w : Word) : List Byte :=
  [w.extractLsb' 24 8, w.extractLsb' 16 8, w.extractLsb' 8 8, w.extractLsb' 0 8]

/-- The word four bytes spell, most significant first. -/
def wordOf (b3 b2 b1 b0 : Byte) : Word := b3 ++ b2 ++ b1 ++ b0

/-- The two bytes of a check word, most significant first. -/
def halfBytes (h : Half) : List Byte := [h.extractLsb' 8 8, h.extractLsb' 0 8]

/-- One bit through the check register (R6). -/
def crcBit (reg : Half) (bit : Bool) : Half :=
  if reg.msb != bit then (reg <<< 1) ^^^ 0x8005#16 else reg <<< 1

/-- One byte through the check register, most significant bit first (R6). -/
def crcByte (reg : Half) (b : Byte) : Half :=
  [7, 6, 5, 4, 3, 2, 1, 0].foldl (fun r i => crcBit r (b.getLsbD i)) reg

/-- The check word of a run of bytes, from the preset FFFFh (R6). -/
def crc (bytes : List Byte) : Half := bytes.foldl crcByte 0xFFFF#16

/-- The LENGTH byte (R8). -/
def Parcel.lengthByte (p : Parcel) : Byte := BitVec.ofNat 8 p.payload.length

/-- The 9-byte header (R8). -/
def Parcel.header (p : Parcel) : List Byte :=
  [p.dest ++ p.group,
   p.kind ++ BitVec.ofBool p.control ++ BitVec.ofBool p.damaged ++ p.zeros,
   p.tag, p.mark, p.lengthByte] ++ wordBytes p.address

/-- Header and payload: what CHECK is computed over (R6). -/
def Parcel.body (p : Parcel) : List Byte := p.header ++ p.payload

/-- The right check word of a parcel (R6). -/
def Parcel.check (p : Parcel) : Half := crc p.body

/-- The bytes of a parcel that carries the check word `c`, right or wrong (R8). -/
def Parcel.run (p : Parcel) (c : Half) : List Byte := p.body ++ halfBytes c

/-- The parcel and check word a correctly framed run spells; absent for a framing fault (R2, R6, R8). -/
def readParcel (run : List Byte) : Option (Parcel × Half) :=
  match run with
  | b0 :: b1 :: tag :: mark :: len :: a3 :: a2 :: a1 :: a0 :: rest =>
    match rest.drop len.toNat with
    | [c1, c0] =>
      some ({ dest := b0.extractLsb' 3 5, group := b0.extractLsb' 0 3,
              kind := b1.extractLsb' 4 4, control := b1.getLsbD 3, damaged := b1.getLsbD 2,
              zeros := b1.extractLsb' 0 2, tag := tag, mark := mark,
              address := wordOf a3 a2 a1 a0, payload := rest.take len.toNat }, c1 ++ c0)
    | _ => none
  | _ => none

/-- DEST 31 (R8). -/
def Parcel.broadcast (p : Parcel) : Bool := p.dest == 31#5

/-- SWEEP NUMBER, CONFIRM NUMBER and RESEND of a sweep address field (R11). -/
def sweepNumber (a : Word) : Byte := a.extractLsb' 24 8
def confirmNumber (a : Word) : Byte := a.extractLsb' 16 8
def resendFlag (a : Word) : Bool := a.getLsbD 8
/-- The must-be-zero bits of a sweep address field are zero (R11). -/
def sweepZerosOk (a : Word) : Bool := a.extractLsb' 9 7 == 0#7 && a.extractLsb' 0 8 == 0#8

/-- The control words of a payload and the addresses they are for, ascending from `a` (R15). -/
def controlWords (a : Nat) : List Byte → List (Nat × Word)
  | b3 :: b2 :: b1 :: b0 :: rest => (a, wordOf b3 b2 b1 b0) :: controlWords (a + 4) rest
  | _ => []

/-- The parcel a command spells: its envelope, KIND, SPACE, ADDRESS and payload, good in every other field. -/
def Envelope.parcel (e : Envelope) (kind : BitVec 4) (control : Bool) (address : Word) (payload : List Byte) : Parcel :=
  { dest := e.dest, group := e.group, kind := kind, control := control, damaged := false, zeros := 0#2,
    tag := e.tag, mark := e.mark, address := address, payload := payload }

/-- The control WRITE of one word. -/
def Envelope.writeWord (e : Envelope) (address word : Word) : Parcel := e.parcel 2#4 true address (wordBytes word)

end Sys2Proof
end

