-- ==== Sys2Proof/Machine/Flags.lean ====
section
/-! DEFINITION. Dispositions (R20), tallies (R175) and the codes of STATUS (R13). -/

namespace Sys2Proof.Machine

/-- The disposition codes a node writes (R20). -/
inductive Disposition where
  | taken
  | refusedFull
  | refusedWindow
  | refusedRights
  | refusedGroup
  | refusedForm
  | refusedControl
  | refusedLocal
  deriving DecidableEq, Repr

/-- The MARK code of a disposition (R20). -/
def Disposition.code : Disposition → Byte
  | .taken => 1#8
  | .refusedFull => 2#8
  | .refusedWindow => 3#8
  | .refusedRights => 4#8
  | .refusedGroup => 5#8
  | .refusedForm => 6#8
  | .refusedControl => 7#8
  | .refusedLocal => 8#8

/-- A tally raised by 1, saturating (R175). -/
def bump (n : Nat) : Nat := min (n + 1) Config.tallyCap

/-- The tally of the same name as a disposition goes up by 1 (R57). -/
def Tallies.disposed (d : Disposition) (t : Tallies) : Tallies :=
  match d with
  | .taken => { t with taken := bump t.taken }
  | .refusedFull => { t with full := bump t.full }
  | .refusedWindow => { t with window := bump t.window }
  | .refusedRights => { t with rights := bump t.rights }
  | .refusedGroup => { t with group := bump t.group }
  | .refusedForm => { t with form := bump t.form }
  | .refusedControl => { t with controlTally := bump t.controlTally }
  | .refusedLocal => { t with localTally := bump t.localTally }

/-- DAMAGED goes up by 1 (R7). -/
def Tallies.raiseDamaged (t : Tallies) : Tallies := { t with damaged := bump t.damaged }

/-- FRAMING goes up by 1 (R4, R6). -/
def Tallies.raiseFraming (t : Tallies) : Tallies := { t with framing := bump t.framing }

/-- SLOTS goes up by 1 for each of `n` slots filled, saturating (R156). -/
def Tallies.raiseSlots (n : Nat) (t : Tallies) : Tallies := { t with slots := min (t.slots + n) Config.tallyCap }

/-- The eleven counts in address order (R19). -/
def Tallies.counts (t : Tallies) : List Nat :=
  [t.taken, t.full, t.window, t.rights, t.group, t.form, t.controlTally, t.localTally, t.damaged, t.framing, t.slots]

/-- The STATUS code (R13). -/
def Status.code : Status → BitVec 4
  | .ok => 0#4
  | .busError => 1#4
  | .grantTimeout => 2#4
  | .waitTimeout => 3#4
  | .grantLost => 4#4
  | .abandoned => 5#4

end Sys2Proof.Machine
end

