-- ==== Sys2Proof/Machine/LoopPort.lean ====
section
/-! DEFINITION. The loop port's clocked side: byte times, sending, buffer room (R1 to R4). -/

namespace Sys2Proof.Machine

/-- A waiting run is one byte time older (counted up to the 2 that R3 asks for). -/
def Queued.age (q : Queued) : Queued := { q with waited := min (q.waited + 1) Config.gapTimes }

/-- Bytes the forwarding buffer holds (R4). -/
def LoopPort.held (l : LoopPort) : Nat := (l.buffer.map (·.bytes.length)).sum + l.sending.length

/-- Bytes of the forwarding buffer that are free (R4). -/
def LoopPort.free (l : LoopPort) : Nat := Config.bufferBytes - l.held

/-- A byte time in which nothing is sent: LFO low, LDO 00h (R1). -/
def LoopPort.quiet (l : LoopPort) : LoopPort :=
  { l with buffer := l.buffer.map Queued.age, idle := min (l.idle + 1) Config.gapTimes, lfo := false, ldo := 0#8 }

/-- A byte time in which `b` leaves and `rest` of its run stays to be sent (R1, R3). -/
def LoopPort.present (l : LoopPort) (b : Byte) (rest : List Byte) (waiting : List Queued) : LoopPort :=
  { l with buffer := waiting.map Queued.age, sending := rest, idle := 0, lfo := true, ldo := b }

/-- One byte time at loop-out (R3): the run being sent goes on byte after byte; the oldest waiting run begins once 2 idle
byte times lie behind both its own last byte and the last byte sent. -/
def LoopPort.byteTime (l : LoopPort) : LoopPort :=
  match l.sending, l.buffer with
  | b :: rest, waiting => l.present b rest waiting
  | [], ⟨b :: rest, waited⟩ :: waiting =>
    if Config.gapTimes ≤ l.idle ∧ Config.gapTimes ≤ waited then l.present b rest waiting else l.quiet
  | [], _ => l.quiet

/-- `n` byte times at loop-out. -/
def LoopPort.byteTimes : Nat → LoopPort → LoopPort
  | 0, l => l
  | n + 1, l => LoopPort.byteTimes n l.byteTime

/-- `n` byte times pass at the loop port. -/
def State.pass (s : State) (n : Nat) : State := { s with loop := s.loop.byteTimes n }

/-- A run is queued for loop-out exactly as it will leave (R3); `waited` byte times lie behind its last byte. -/
def State.enqueue (s : State) (bytes : List Byte) (waited : Nat) : State :=
  { s with loop := { s.loop with buffer := s.loop.buffer ++ [⟨bytes, waited⟩] } }

/-- The loop port discards what arrives until LFI falls (R4). -/
def State.discardRun (s : State) : State := { s with loop := { s.loop with discarding := true } }

/-- FRAMING goes up by 1 (R4, R6). -/
def State.raiseFraming (s : State) : State := { s with tallies := s.tallies.raiseFraming }

/-- Byte times until the oldest waiting run, `q`, presents its first byte (R3). -/
def LoopPort.untilSend (l : LoopPort) (q : Queued) : Nat :=
  max (Config.gapTimes - q.waited)
    (match l.sending with
     | [] => Config.gapTimes - l.idle
     | bytes => bytes.length + Config.gapTimes) + 1

/-- Byte times pass until the oldest waiting run begins leaving; none where no run waits (R3). -/
def LoopPort.sendNext (l : LoopPort) : LoopPort :=
  match l.buffer with
  | [] => l
  | q :: _ => l.byteTimes (l.untilSend q)

/-- What loop-in does before it judges a run of `len` bytes that begins `gap` byte times (at least one, R2) after LFI
fell. Held in power-on reset it receives nothing (R34); while it discards, the bytes belong to the run being discarded
(R4); a run that begins with fewer than 266 bytes free is dropped whole (R4); any other run is judged in the byte time
of its last byte (R3). -/
def listen (gap len : Nat) (judge : State → State) (s : State) : State :=
  if s.powered = false then s
  else if s.loop.discarding then s.pass len
  else if (s.pass (max gap 1)).loop.free < Config.maxRun then
    (s.pass (max gap 1 + len)).raiseFraming.discardRun
  else judge (s.pass (max gap 1 + len))

/-- An overlong run at its 267th byte (R4): FRAMING once, the first 266 bytes queued unchanged with the 266th as the last
byte of R3's timing, the remainder discarded. -/
def cutOverlong (run : List Byte) (s : State) : State :=
  (s.raiseFraming.enqueue (run.take Config.maxRun) 1).discardRun

/-- A run of these bytes arrives and `judge` is what its last byte's happening does; a run longer than 266 bytes is judged
at its 267th byte instead (R2, R4). -/
def arriveRun (gap : Nat) (run : List Byte) (judge : State → State) (s : State) : State :=
  if Config.maxRun < run.length then listen gap (Config.maxRun + 1) (cutOverlong run) s
  else listen gap run.length judge s

/-- The first byte of a run arrives (R4): with fewer than 266 bytes free the run is dropped whole. With more free nothing is
judged at a first byte, and the run is the command that its last byte makes. -/
def dropAtFirstByte (gap : Nat) (s : State) : State :=
  if s.powered = false then s
  else if s.loop.discarding then s.pass 1
  else if (s.pass (max gap 1)).loop.free < Config.maxRun then (s.pass (max gap 1 + 1)).raiseFraming.discardRun
  else s

/-- LFI falls (R4): a run being discarded ends after `discarded` more byte times. -/
def lfiFall (discarded : Nat) (s : State) : State :=
  if s.powered && s.loop.discarding then
    { s.pass discarded with loop := { (s.pass discarded).loop with discarding := false } }
  else s

end Sys2Proof.Machine
end

