-- ==== Sys2Proof/Machine/Windows.lean ====
section
/-! DEFINITION. The window table: lookup, translation, loading, COPY and SWAP (chapter 4). -/

namespace Sys2Proof.Machine

def Bank.other : Bank → Bank
  | .a => .b
  | .b => .a

def WindowTable.bank (t : WindowTable) : Bank → Vector WindowEntry 16
  | .a => t.bankA
  | .b => t.bankB

/-- The bank that translates (R58). -/
def WindowTable.activeBank (t : WindowTable) : Vector WindowEntry 16 := t.bank t.active

/-- The bank the master loads (R58). -/
def WindowTable.standbyBank (t : WindowTable) : Vector WindowEntry 16 := t.bank t.active.other

/-- The table with its standby bank replaced. -/
def WindowTable.setStandby (t : WindowTable) (v : Vector WindowEntry 16) : WindowTable :=
  match t.active with
  | .a => { t with bankB := v }
  | .b => { t with bankA := v }

/-- LOOP BASE (R59). -/
def WindowEntry.loopBase (e : WindowEntry) : Nat := e.loopPage.toNat * 256

/-- LOCAL BASE (R59). -/
def WindowEntry.localBase (e : WindowEntry) : Nat := e.localUnit.toNat * 8

/-- The window's size in bytes (R59). -/
def WindowEntry.bytes (e : WindowEntry) : Nat := e.size.toNat * 256

/-- VALID, and the loop range contains loop address `a` (R61). -/
def WindowEntry.contains (a : Nat) (e : WindowEntry) : Bool :=
  e.valid && decide (e.loopBase ≤ a) && decide (a < e.loopBase + e.bytes)

/-- An access of `n` bytes at `a` ends inside the entry (R62). -/
def WindowEntry.fits (e : WindowEntry) (a n : Nat) : Bool := decide (a + n ≤ e.loopBase + e.bytes)

/-- The local address of loop address `a` (R63). -/
def WindowEntry.translate (e : WindowEntry) (a : Nat) : Word := BitVec.ofNat 32 (e.localBase + (a - e.loopBase))

/-- The lowest-index VALID entry of the active bank that contains `a` (R61). -/
def WindowTable.lookup (t : WindowTable) (a : Nat) : Option WindowEntry :=
  t.activeBank.toList.find? (WindowEntry.contains a)

/-- The three conditions SWAP asks of a VALID entry (R70). -/
def WindowEntry.sound (e : WindowEntry) : Bool :=
  !e.valid || (decide (1 ≤ e.size.toNat) && decide (e.loopBase + e.bytes ≤ Config.addressSpace)
    && decide (e.localBase + e.bytes ≤ Config.addressSpace))

/-- SWAP validation of the standby bank (R49, R70). -/
def WindowTable.swapValid (t : WindowTable) : Bool := t.standbyBank.toList.all WindowEntry.sound

/-- SWAP (R71). -/
def WindowTable.swapBanks (t : WindowTable) : WindowTable :=
  { t with active := t.active.other, swapCount := t.swapCount + 1 }

/-- COPY (R69). -/
def WindowTable.copyBank (t : WindowTable) : WindowTable := t.setStandby t.activeBank

/-- Word `w` of an entry replaced by its fields in `x` (R16, R67). -/
def WindowEntry.setWord (e : WindowEntry) (w : Nat) (x : Word) : WindowEntry :=
  match w with
  | 0 => { e with loopPage := x.extractLsb' 8 24 }
  | 1 => { e with size := x.extractLsb' 0 24 }
  | 2 => { e with localUnit := x.extractLsb' 3 29 }
  | _ => { e with valid := x.getLsbD 31, r := x.getLsbD 2, w := x.getLsbD 1, s := x.getLsbD 0 }

/-- Word `w` of an entry as it reads (R16). -/
def WindowEntry.word (e : WindowEntry) (w : Nat) : Word :=
  match w with
  | 0 => e.loopPage ++ 0#8
  | 1 => 0#8 ++ e.size
  | 2 => e.localUnit ++ 0#3
  | _ => BitVec.ofBool e.valid ++ 0#28 ++ BitVec.ofBool e.r ++ BitVec.ofBool e.w ++ BitVec.ofBool e.s

/-- Entry `i mod 16` of a bank. -/
def bankEntry (v : Vector WindowEntry 16) (i : Nat) : WindowEntry := v[i % 16]'(Nat.mod_lt i (by decide))

/-- The standby word at control address `addr`, 100h to 1FFh, replaced by `x` (R67). -/
def WindowTable.writeStandby (t : WindowTable) (addr : Nat) (x : Word) : WindowTable :=
  t.setStandby (t.standbyBank.set (addr / 16 % 16)
    ((bankEntry t.standbyBank (addr / 16)).setWord (addr % 16 / 4) x) (Nat.mod_lt _ (by decide)))

end Sys2Proof.Machine
end

