-- ==== Sys2Proof/Machine/Ops.lean ====
section
/-! DEFINITION. Named operations over the journal, the group table, the gate and the reply unit, shared by the commands. -/

namespace Sys2Proof.Machine

/-! ### Journal (chapter 5) -/

/-- The two local byte ranges have a byte in common (R78). -/
def Entry.overlaps (x y : Entry) : Bool :=
  decide (x.address.toNat < y.address.toNat + y.length) && decide (y.address.toNat < x.address.toNat + x.length)

def Entry.isRead (e : Entry) : Bool := e.kind == .read

/-- The older entry blocks the younger: they overlap and are not both READs (R79). -/
def Entry.blocks (older younger : Entry) : Bool := older.overlaps younger && !(older.isRead && younger.isRead)

/-- The entry at age position `k` is blocked by an older one (R79). -/
def blockedAt (j : List Entry) (k : Nat) : Bool :=
  match j[k]? with
  | none => false
  | some e => (j.take k).any (·.blocks e)

def Entry.isIssued (e : Entry) : Bool := e.state == .issued

/-- A staged entry of group `g`. -/
def Entry.ofGroup (g : BitVec 3) (e : Entry) : Bool := e.kind == .staged g

/-- An entry joins at the tail (R74, R77). -/
def State.append (s : State) (e : Entry) : State := { s with journal := s.journal ++ [e] }

/-- Waking: a PARKED entry of group `g` becomes WAITING (R105). -/
def Entry.wake (g : BitVec 3) (e : Entry) : Entry :=
  if e.ofGroup g && e.state == .parked then { e with state := .waiting } else e

/-! ### Executor (R43, R81, R120) -/

/-- The local side is held in reset (R120). -/
def State.localHeld (s : State) : Bool := s.executor == .reset

/-! ### Group table (chapter 6) -/

/-- Record `g`. -/
def State.group (s : State) (g : BitVec 3) : Group := s.groups[g.toNat]'g.isLt

def State.setGroup (s : State) (g : BitVec 3) (r : Group) : State :=
  { s with groups := s.groups.set g.toNat r g.isLt }

/-! ### Reply unit (chapters 9 and 10) -/

/-- Reply use: QUEUED plus CARRIED entries plus reservations (R149). -/
def ReplyUnit.use (r : ReplyUnit) : Nat := r.queue.length + r.reservations

/-- A reply entry is queued at the tail, QUEUED (R148, R151). -/
def State.queueReply (s : State) (tag : Byte) (body : ReplyBody) : State :=
  { s with replies := { s.replies with queue := s.replies.queue ++ [⟨tag, body, none⟩] } }

/-- A reservation is taken (R150). -/
def State.reserve (s : State) : State :=
  { s with replies := { s.replies with reservations := s.replies.reservations + 1 } }

/-- A reservation becomes a reply entry (R150, R151). -/
def State.convertReply (s : State) (tag : Byte) (body : ReplyBody) : State :=
  { s with replies := { s.replies with
      queue := s.replies.queue ++ [⟨tag, body, none⟩], reservations := s.replies.reservations - 1 } }

/-- A new fault record is offered to the fault list (R165). -/
def ReplyUnit.offerFault (r : ReplyUnit) (cause : FaultCause) : ReplyUnit :=
  if r.faults.length < Config.faultRoom then
    { r with faults := r.faults ++ [⟨cause, r.lostFaults, none⟩], lostFaults := 0 }
  else { r with lostFaults := min (r.lostFaults + 1) Config.lostCap }

def State.offerFault (s : State) (cause : FaultCause) : State := { s with replies := s.replies.offerFault cause }

/-- A rising edge of ATTN (R168). -/
def Attention.rise : Attention → Attention
  | .idle => .pending
  | .pending => .pending
  | .carried n _ => .carried n true

/-! ### Gate (chapter 8) -/

/-- The gate permits an issue (R140). -/
def Gate.permits (g : Gate) : Bool := g.mode == .opened || decide (0 < g.credits)

/-- A GATE word applies (R141). -/
def Gate.write (g : Gate) (heldBit : Bool) : Gate :=
  match heldBit, g.mode with
  | false, _ => { mode := .opened, credits := 0 }
  | true, .opened => { mode := .held, credits := 0 }
  | true, .held => g

/-- A taken STEP of `c` credits (R142). -/
def Gate.step (g : Gate) (c : Nat) : Gate :=
  match g.mode with
  | .opened => g
  | .held => { g with credits := min (g.credits + c) Config.creditCap }

/-- An issue uses a credit while HELD (R143). -/
def Gate.use (g : Gate) : Gate :=
  match g.mode with
  | .opened => g
  | .held => { g with credits := g.credits - 1 }

/-! ### COMMIT and DISCARD (R105 to R109) -/

/-- A taken COMMIT: an OPEN group's parked entries wake, the group is COMMITTING under the TAG, and a reservation is taken;
an EMPTY group is answered at once. -/
def State.commitGroup (s : State) (g : BitVec 3) (tag : Byte) : State :=
  if (s.group g).state = .opened then
    ({ s with journal := s.journal.map (Entry.wake g) }.setGroup g
      { s.group g with state := .committing, commitTag := some tag }).reserve
  else s.queueReply tag (.commitDone .ok 0 0 0 none)

/-- A taken DISCARD: an OPEN group's entries leave the journal and the group is EMPTY; the removed count is queued at once. -/
def State.discardGroup (s : State) (g : BitVec 3) (tag : Byte) : State :=
  if (s.group g).state = .opened then
    ({ s with journal := s.journal.filter (fun e => !e.ofGroup g) }.setGroup g Group.cleared).queueReply tag
      (.discardDone (s.group g).entryCount)
  else s.queueReply tag (.discardDone 0)

/-- A STAGE joins its group (R52, R103). -/
def Group.addEntry (r : Group) : Group :=
  match r.state with
  | .empty => { Group.cleared with state := .opened, entryCount := 1 }
  | _ => { r with entryCount := r.entryCount + 1 }

/-! ### Completion accounting (R88 to R91, R110 to R112) -/

/-- How an operation ends (R87, R131). -/
inductive Ending where
  | ok
  | failed (status : Status)
  deriving DecidableEq, Repr

/-- The STATUS of a COMMIT-DONE at the last completion (R112). -/
def Group.doneStatus (r : Group) : Status :=
  match r.first with
  | some (_, st) => if r.failed = 0 then .ok else st
  | none => .ok

/-- The record after one staged completion (R110, R111). -/
def Group.account (r : Group) (tag : Byte) : Ending → Group
  | .ok => { r with written := r.written + 1, entryCount := r.entryCount - 1 }
  | .failed st =>
    { r with failed := r.failed + 1, first := r.first.or (some (tag, st)), entryCount := r.entryCount - 1 }

/-- The COMMIT-DONE contents of a record under a STATUS (R112, R113). -/
def Group.doneBody (r : Group) (status : Status) (abandoned : Nat) : ReplyBody :=
  .commitDone status r.written r.failed abandoned (if r.failed = 0 then none else r.first)

/-- A staged entry of group `g` completes (R110 to R112). -/
def State.accountStaged (s : State) (g : BitVec 3) (tag : Byte) (o : Ending) : State :=
  let r := (s.group g).account tag o
  if r.state = .committing ∧ r.entryCount = 0 then
    (s.setGroup g Group.cleared).convertReply (r.commitTag.getD 0#8) (r.doneBody r.doneStatus 0)
  else s.setGroup g r

end Sys2Proof.Machine
end

