-- ==== Sys2Proof/Machine/Bus.lean ====
section
/-! DEFINITION. Beats and pins of the local bus (R121 to R123). -/

namespace Sys2Proof.Machine

/-- The number of beats of an operation at `a` of length `n` (R122). -/
def beatCount (a n : Nat) : Nat := (a + n - 1) / 8 - a / 8 + 1

/-- The local address of beat `i` of an operation at `a` (R122). -/
def beatAddress (a i : Nat) : Nat := (a / 8 + i) * 8

/-- Lane `k` of the beat at `b` carries a byte of the operation at `a` of length `n` (R123). -/
def laneEnabled (a n b k : Nat) : Bool := decide (a ≤ b + k) && decide (b + k < a + n)

/-- The byte enables of the beat at `b` (R123). -/
def byteEnables (a n b : Nat) : BitVec 8 :=
  [0, 1, 2, 3, 4, 5, 6, 7].foldl
    (fun acc k => if laneEnabled a n b k then acc ||| (1#8 <<< k) else acc) 0#8

/-- The write data of the beat at `b`, lanes not enabled at zero (R123). -/
def laneData (a n b : Nat) (data : List Byte) : BitVec 64 :=
  [0, 1, 2, 3, 4, 5, 6, 7].foldl
    (fun acc k =>
      if laneEnabled a n b k then acc ||| ((data.getD (b + k - a) 0#8).setWidth 64 <<< (8 * k)) else acc) 0#64

/-- The bytes a READ takes from LD at the beat at `b`, in ascending local address order (R123). -/
def laneBytes (a n b : Nat) (ld : BitVec 64) : List Byte :=
  ([0, 1, 2, 3, 4, 5, 6, 7].filter (laneEnabled a n b)).map (fun k => ld.extractLsb' (8 * k) 8)

/-- The local address of the operation's current beat. -/
def Operation.beatAt (op : Operation) : Nat := beatAddress op.address.toNat op.beat

/-- The current beat is the last of the beat list (R128). -/
def Operation.atLast (op : Operation) : Bool := decide (beatCount op.address.toNat op.length ≤ op.beat + 1)

/-- The pins in REQUESTING (R121). -/
def BusPins.requesting : BusPins := { BusPins.idle with lreq := true }

/-- The pins in TRANSFERRING, at the current beat (R121). -/
def Operation.pins (op : Operation) : BusPins where
  lreq := true
  la := BitVec.ofNat 29 (op.beatAt / 8)
  lbe := byteEnables op.address.toNat op.length op.beatAt
  lrw := op.kind == .read
  ld := if op.kind = .read then none else some (laneData op.address.toNat op.length op.beatAt op.data)

/-- The pins an executor state drives (R121). -/
def Executor.pins : Executor → BusPins
  | .idle => BusPins.idle
  | .reset => BusPins.idle
  | .requesting _ => BusPins.requesting
  | .transferring op => op.pins

/-- The executor enters a state, with the pins of that state (R121). -/
def State.enter (s : State) (x : Executor) : State := { s with executor := x, bus := x.pins }

end Sys2Proof.Machine
end

