-- ==== Sys2Proof/Machine/Executor.lean ====
section
/-! DEFINITION. The local executor: issue, edges, the end of an operation, local reset, loop reset and power
(chapters 5, 7 and 8). -/

namespace Sys2Proof.Machine

/-! ### Issue (R81, R82, R124) -/

/-- The entry at age position `k` is WAITING and not blocked: the two conditions of readiness judged entry by entry (R81). -/
def readyAt (j : List Entry) (k : Nat) : Bool :=
  match j[k]? with
  | none => false
  | some e => e.state == .waiting && !blockedAt j k

/-- The age position of the oldest entry so ready (R82). -/
def oldestReady (j : List Entry) : Option Nat := (List.range j.length).find? (readyAt j)

/-- The operation record copied from an entry at issue (R124). -/
def Entry.operation (e : Entry) : Operation where
  kind := e.kind
  tag := e.tag
  address := e.address
  length := e.length
  data := e.data
  beat := 0
  wait := 0
  gathered := []

/-- The issue of the entry at position `k` (R82, R124, R143). -/
def State.issueAt (s : State) (k : Nat) (e : Entry) : State :=
  { s with journal := s.journal.set k { e with state := .issued }, gate := s.gate.use }.enter (.requesting e.operation)

/-- An issue is taken (R82): from IDLE, where the gate permits, of the oldest ready entry. Where none is ready there is no
issue (R83). -/
def State.takeIssue (s : State) : State :=
  if s.powered && s.executor == .idle && s.gate.permits then
    match oldestReady s.journal with
    | none => s
    | some k =>
      match s.journal[k]? with
      | none => s
      | some e => s.issueAt k e
  else s

/-! ### The end of an operation (R87 to R91, R131) -/

/-- What the journal hands on when entry `e` leaves it at the completion of operation `op` (R88 to R91). -/
def State.account (s : State) (e : Entry) (op : Operation) : Ending → State
  | .ok =>
    match e.kind with
    | .read => s.convertReply e.tag (.readData op.gathered)
    | .posted => s
    | .staged g => s.accountStaged g e.tag .ok
  | .failed st =>
    match e.kind with
    | .read => s.convertReply e.tag (.readError st)
    | .posted => s.offerFault (.postedWriteFailed st e.tag (BitVec.ofNat 32 op.beatAt) op.beat)
    | .staged g => s.accountStaged g e.tag (.failed st)

/-- The operation ends (R131): the pins return to the idle pattern, the executor is IDLE, and the ISSUED entry leaves the
journal and is accounted for by kind (R87). -/
def State.finish (s : State) (op : Operation) (o : Ending) : State :=
  match s.journal.find? Entry.isIssued with
  | none => s.enter .idle
  | some e => ({ s with journal := s.journal.eraseP Entry.isIssued }.enter .idle).account e op o

/-! ### Edges of LCLK (R125 to R130) -/

/-- One more counted edge, held at 4080 (R120). -/
def Operation.counted (op : Operation) : Operation := { op with wait := min (op.wait + 1) Config.waitCap }

/-- The local limit is in force and the wait count has reached it (R126, R129, R130). -/
def limitReached (limit : Byte) (op : Operation) : Bool :=
  decide (1 ≤ limit.toNat) && decide (16 * limit.toNat ≤ op.wait)

/-- An edge in REQUESTING (R126). -/
def State.requestEdge (s : State) (op : Operation) (lgnt : Bool) : State :=
  if lgnt then s.enter (.transferring { op with beat := 0, wait := 0 })
  else if limitReached s.limit op.counted then s.finish { op with beat := 0 } (.failed .grantTimeout)
  else s.enter (.requesting op.counted)

/-- The operation with the enabled bytes of the current beat gathered, if it is a READ (R123, R128). -/
def Operation.gather (op : Operation) (ld : BitVec 64) : Operation :=
  if op.kind = .read then
    { op with gathered := op.gathered ++ laneBytes op.address.toNat op.length op.beatAt ld }
  else op

/-- The current beat is done (R128). -/
def State.beatDone (s : State) (op : Operation) (ld : BitVec 64) : State :=
  if op.atLast then s.finish (op.gather ld) .ok
  else s.enter (.transferring { op.gather ld with beat := op.beat + 1, wait := 0 })

/-- The current beat is stretched (R127, R129). -/
def State.stretch (s : State) (op : Operation) : State :=
  if limitReached s.limit op.counted then s.finish op (.failed .waitTimeout)
  else s.enter (.transferring op.counted)

/-- An edge in TRANSFERRING: the first line of R127's table that applies. -/
def State.beatEdge (s : State) (op : Operation) (lgnt lerr lwait : Bool) (ld : BitVec 64) : State :=
  if !lgnt then s.finish op (.failed .grantLost)
  else if lerr then s.finish op (.failed .busError)
  else if lwait then s.stretch op
  else s.beatDone op ld

/-- A rising edge of LCLK at which the levels given are sampled (R125). Held in power-on reset, and in IDLE and RESET, it
does nothing at the executor (R125, R138). -/
def State.edge (s : State) (lgnt lerr lwait : Bool) (ld : BitVec 64) : State :=
  if s.powered then
    match s.executor with
    | .idle => s
    | .reset => s
    | .requesting op => s.requestEdge op lgnt
    | .transferring op => s.beatEdge op lgnt lerr lwait ld
  else s

/-! ### Local reset (R94, R113, R114, R134, R135) -/

/-- The READ-ERROR of a READ that a local reset removes (R94). -/
def Entry.abandonedReply (e : Entry) : Option ReplyEntry :=
  if e.isRead then some ⟨e.tag, .readError .abandoned, none⟩ else none

/-- The group numbers, ascending. -/
def groupNumbers : List (BitVec 3) := [0#3, 1#3, 2#3, 3#3, 4#3, 5#3, 6#3, 7#3]

/-- `n` entries of the group are removed by a local reset and counted as abandoned (R94, R100). -/
def Group.abandon (r : Group) (n : Nat) : Group :=
  { r with abandoned := r.abandoned + n, entryCount := r.entryCount - n }

/-- The record of group `g` once a local reset has removed the journal's entries (R94, R113). -/
def State.abandonedGroup (s : State) (g : BitVec 3) : Group :=
  (s.group g).abandon (s.journal.countP (Entry.ofGroup g))

/-- The COMMIT-DONE of group `g` at a local reset, if it is COMMITTING (R113). -/
def State.abandonedDone (s : State) (g : BitVec 3) : Option ReplyEntry :=
  if (s.abandonedGroup g).state = .committing then
    some ⟨(s.abandonedGroup g).commitTag.getD 0#8,
      (s.abandonedGroup g).doneBody .abandoned (s.abandonedGroup g).abandoned, none⟩
  else none

/-- The replies a local reset makes, in order: READ-ERRORs by age, then COMMIT-DONEs by group number (R94). -/
def State.abandonedReplies (s : State) : List ReplyEntry :=
  s.journal.filterMap Entry.abandonedReply ++ groupNumbers.filterMap s.abandonedDone

/-- The lost-posted count of a local reset (R94). -/
def lostPosted (j : List Entry) : Nat := j.countP (fun e => e.kind == .posted)

/-- The local reset sequence (R134): abandon and release the bus, empty the journal, answer the groups, offer the LOCAL-RESET
record, clear the credits, enter RESET. -/
def State.localResetSequence (s : State) : State :=
  { s with
    journal := []
    groups := Vector.replicate 8 Group.cleared
    replies := { s.replies with
      queue := s.replies.queue ++ s.abandonedReplies
      reservations := s.replies.reservations - s.abandonedReplies.length }.offerFault (.localReset (lostPosted s.journal))
    gate := { s.gate with credits := 0 } }.enter .reset

/-- The COMMAND LOCAL RESET (R135): the sequence, after which the executor is IDLE unless it was in RESET before. -/
def State.localResetCommand (s : State) : State :=
  if s.localHeld then s.localResetSequence else s.localResetSequence.enter .idle

/-! ### Loop reset and power (R32 to R34, R137, R138) -/

/-- The executor state that follows the level of LRST# taken last (R137, R138). -/
def executorFor (lrstLow : Bool) : Executor := if lrstLow then .reset else .idle

/-- Every block takes its loop reset values (R32); the forwarding buffer stays as it stands (R33). -/
def State.loopReset (s : State) : State :=
  { s with
    loop := { s.loop with loopState := .unnumbered }
    windows := WindowTable.atReset
    journal := []
    groups := Vector.replicate 8 Group.cleared
    gate := Gate.atReset
    replies := ReplyUnit.atReset
    limit := Config.resetLimit
    tallies := Tallies.zero }.enter (executorFor s.lrstLow)

/-- Power-on reset ends with LRST# and LFI at these levels (R34, R138, R4). -/
def State.powerOn (s : State) (lrstHigh lfiHigh : Bool) : State :=
  { s with powered := true, lrstLow := !lrstHigh, loop := { LoopPort.atReset with discarding := lfiHigh } }.loopReset

/-- The local bus pins while power-on reset holds the part: LREQ low, LD not driven (R34), the others free (log entry 2). -/
def heldPins (draw : Nat) : BusPins where
  lreq := false
  la := (Config.heldBus draw).extractLsb' 9 29
  lbe := (Config.heldBus draw).extractLsb' 1 8
  lrw := (Config.heldBus draw).getLsbD 0
  ld := none

/-- A supply falls below its range (R34): the part enters power-on reset. -/
def State.powerFail (s : State) : State :=
  if s.powered then
    { s.powerOn true false with
      powered := false
      loop := LoopPort.inReset
      bus := heldPins s.heldDraws
      heldDraws := s.heldDraws + 1 }
  else s

end Sys2Proof.Machine
end

