-- ==== Sys2Proof/Machine/Replies.lean ====
section
/-! DEFINITION. What a taken sweep does at the reply unit: release, resend and fill (chapters 9 and 10), and the slots it
writes (R12 to R14, R157). -/

namespace Sys2Proof.Machine

/-! ### Release (R153) -/

/-- An item carried under `n` is released by confirm number `c` (R153). -/
def covers (c n : Byte) : Bool := decide ((c - n).toNat < 128)

/-- An item with this carrying number is released by `c`; a QUEUED item is not (R153). -/
def released (c : Byte) : Option Byte → Bool
  | none => false
  | some n => covers c n

def Attention.release (c : Byte) : Attention → Attention
  | .carried n again => if covers c n then (if again then .pending else .idle) else .carried n again
  | a => a

def ReplyUnit.release (r : ReplyUnit) (c : Byte) : ReplyUnit :=
  { r with
    queue := r.queue.filter (fun e => !released c e.carrying)
    faults := r.faults.filter (fun e => !released c e.carrying)
    attention := r.attention.release c }

/-! ### Resend (R155) -/

def Attention.resend : Attention → Attention
  | .carried _ _ => .pending
  | a => a

def ReplyUnit.resend (r : ReplyUnit) : ReplyUnit :=
  { r with
    queue := r.queue.map (fun e => { e with carrying := none })
    faults := r.faults.map (fun e => { e with carrying := none })
    attention := r.attention.resend }

/-! ### Slots (R12 to R14, R157) -/

/-- An item to place in a slot. -/
inductive Item where
  | attention
  | fault (f : FaultRecord)
  | reply (e : ReplyEntry)
  deriving DecidableEq, Repr

/-- The RKIND code of a reply entry (R13). -/
def ReplyBody.rkind : ReplyBody → BitVec 3
  | .readData _ => 1#3
  | .readError _ => 2#3
  | .controlData _ => 3#3
  | .commitDone _ _ _ _ _ => 4#3
  | .discardDone _ => 5#3

/-- The STATUS of a reply entry (R13). -/
def ReplyBody.status : ReplyBody → Status
  | .readError st => st
  | .commitDone st _ _ _ _ => st
  | _ => .ok

/-- The data of a reply entry (R14, Table 1-2). -/
def ReplyBody.data : ReplyBody → List Byte
  | .readData bytes => bytes
  | .readError _ => []
  | .controlData bytes => bytes
  | .commitDone _ w f a none => [BitVec.ofNat 8 w, BitVec.ofNat 8 f, BitVec.ofNat 8 a, 0#8, 0#8]
  | .commitDone _ w f a (some (tag, st)) =>
    [BitVec.ofNat 8 w, BitVec.ofNat 8 f, BitVec.ofNat 8 a, tag, 0#4 ++ st.code]
  | .discardDone n => [BitVec.ofNat 8 n]

/-- The STATUS of a fault record (R13, R164). -/
def FaultCause.status : FaultCause → Status
  | .postedWriteFailed st _ _ _ => st
  | .localReset _ => .abandoned

/-- The TAG of a fault record, 0 for LOCAL-RESET (R157). -/
def FaultCause.tag : FaultCause → Byte
  | .postedWriteFailed _ t _ _ => t
  | .localReset _ => 0#8

/-- The data of a fault record (R14, Table 1-2). -/
def FaultRecord.data (f : FaultRecord) : List Byte :=
  match f.cause with
  | .postedWriteFailed _ _ address beat =>
    [1#8, BitVec.ofNat 8 beat] ++ wordBytes address ++ [BitVec.ofNat 8 f.lostBefore, 0#8]
  | .localReset n => [2#8, 0#8] ++ wordBytes 0#32 ++ [BitVec.ofNat 8 f.lostBefore, BitVec.ofNat 8 n]

/-- The 36 bytes of a slot (R12). -/
def slotBytes (rkind : BitVec 3) (status : Status) (node : BitVec 5) (tag : Byte) (data : List Byte) : List Byte :=
  [1#1 ++ rkind ++ status.code, node ++ 0#3, tag, BitVec.ofNat 8 data.length] ++ data
    ++ List.replicate (32 - data.length) 0#8

/-- The slot that carries an item (R157). -/
def Item.slot (node : BitVec 5) : Item → List Byte
  | .attention => slotBytes 7#3 .ok node 0#8 []
  | .fault f => slotBytes 6#3 f.cause.status node f.cause.tag f.data
  | .reply e => slotBytes e.body.rkind e.body.status node e.tag e.body.data

/-! ### Fill (R156) -/

/-- The oldest QUEUED fault record becomes CARRIED under `n`; absent when none is QUEUED. -/
def carryFault (n : Byte) : List FaultRecord → Option (FaultRecord × List FaultRecord)
  | [] => none
  | f :: fs =>
    match f.carrying with
    | none => some (f, { f with carrying := some n } :: fs)
    | some _ => (carryFault n fs).map (fun p => (p.1, f :: p.2))

/-- The oldest QUEUED reply entry becomes CARRIED under `n`; absent when none is QUEUED. -/
def carryReply (n : Byte) : List ReplyEntry → Option (ReplyEntry × List ReplyEntry)
  | [] => none
  | e :: es =>
    match e.carrying with
    | none => some (e, { e with carrying := some n } :: es)
    | some _ => (carryReply n es).map (fun p => (p.1, e :: p.2))

/-- The next item by R156's priority, CARRIED under sweep number `n`; absent when the node holds none to place. -/
def ReplyUnit.place (r : ReplyUnit) (n : Byte) : Option (Item × ReplyUnit) :=
  match r.attention with
  | .pending => some (.attention, { r with attention := .carried n false })
  | _ =>
    match carryFault n r.faults with
    | some (f, faults) => some (.fault f, { r with faults := faults })
    | none =>
      match carryReply n r.queue with
      | some (e, queue) => some (.reply e, { r with queue := queue })
      | none => none

/-- The fill stage over `k` slots (R156): the payload as it leaves, the reply unit after, and the number of slots filled. -/
def fillSlots (node : BitVec 5) (n : Byte) : Nat → List Byte → ReplyUnit → List Byte × ReplyUnit × Nat
  | 0, bytes, r => (bytes, r, 0)
  | k + 1, bytes, r =>
    if (bytes.headD 0#8).msb then
      let out := fillSlots node n k (bytes.drop 36) r
      (bytes.take 36 ++ out.1, out.2.1, out.2.2)
    else
      match r.place n with
      | none => (bytes, r, 0)
      | some (item, r') =>
        let out := fillSlots node n k (bytes.drop 36) r'
        (item.slot node ++ out.1, out.2.1, out.2.2 + 1)

/-- The three stages of a taken sweep (R152): the payload as it leaves, the reply unit after, the number of slots filled. -/
def ReplyUnit.sweep (r : ReplyUnit) (node : BitVec 5) (field : Word) (slots : List Byte) : List Byte × ReplyUnit × Nat :=
  let released := r.release (confirmNumber field)
  let ready := if resendFlag field then released.resend else released
  fillSlots node (sweepNumber field) (slots.length / 36) slots ready

end Sys2Proof.Machine
end

