-- ==== Sys2Proof/Machine/Control.lean ====
section
/-! DEFINITION. Control space: the address map, the words as they read, and the words as they apply (R15 to R19, R42, R48,
R171 to R177). -/

namespace Sys2Proof.Machine

/-- Control address `a` lies in a mapped region (R42). -/
def mapped (a : Nat) : Bool :=
  decide (a < 0x01C) || (decide (0x040 ≤ a) && decide (a < 0x06C)) || (decide (0x100 ≤ a) && decide (a < 0x300))
    || (decide (0x400 ≤ a) && decide (a < 0x620))

/-! ### Reading (R172, R176) -/

def nodeNumber : LoopState → BitVec 5
  | .unnumbered => 0#5
  | .numbered n => n

/-- NODE STATUS (R19, R172). -/
def State.nodeStatus (s : State) : Word :=
  BitVec.ofBool (s.loop.loopState != .unnumbered) ++ 0#2 ++ nodeNumber s.loop.loopState
    ++ BitVec.ofBool s.localHeld ++ 0#6 ++ BitVec.ofBool (s.gate.mode == .held) ++ 0#4
    ++ BitVec.ofNat 4 s.gate.credits ++ 0#2 ++ BitVec.ofNat 6 s.journal.length

/-- GATE (R173). -/
def State.gateWord (s : State) : Word := 0#31 ++ BitVec.ofBool (s.gate.mode == .held)

/-- BANK STATUS (R72). -/
def State.bankStatus (s : State) : Word :=
  0#15 ++ BitVec.ofBool (s.windows.active == .b) ++ s.windows.swapCount

def Attention.code : Attention → BitVec 2
  | .idle => 0#2
  | .pending => 1#2
  | .carried _ _ => 2#2

def Attention.again : Attention → Bool
  | .carried _ again => again
  | _ => false

/-- QUEUE STATUS (R163). -/
def State.queueStatus (s : State) : Word :=
  BitVec.ofNat 5 (s.replies.queue.countP (·.carrying.isNone))
    ++ BitVec.ofNat 5 (s.replies.queue.countP (·.carrying.isSome))
    ++ BitVec.ofNat 5 s.replies.reservations
    ++ BitVec.ofNat 3 (s.replies.faults.countP (·.carrying.isNone))
    ++ BitVec.ofNat 3 (s.replies.faults.countP (·.carrying.isSome))
    ++ BitVec.ofNat 8 s.replies.lostFaults
    ++ s.replies.attention.code ++ BitVec.ofBool s.replies.attention.again

def EntryState.code : EntryState → BitVec 4
  | .waiting => 1#4
  | .parked => 2#4
  | .issued => 3#4

def EntryKind.code : EntryKind → BitVec 4
  | .read => 1#4
  | .posted => 2#4
  | .staged _ => 3#4

/-- GROUP PRESENT and GROUP (R17). -/
def EntryKind.groupField : EntryKind → BitVec 4
  | .staged g => 1#1 ++ g
  | _ => 0#4

/-- Word `w` of journal view record `k` (R17, R98). -/
def journalWord (j : List Entry) (k w : Nat) : Word :=
  match j[k]? with
  | none => 0#32
  | some e =>
    match w with
    | 0 => e.state.code ++ e.kind.code ++ BitVec.ofBool (blockedAt j k) ++ 0#3 ++ e.kind.groupField ++ e.tag
        ++ BitVec.ofNat 8 e.length
    | 1 => e.address
    | _ => 0#32

def GroupState.code : GroupState → BitVec 2
  | .empty => 0#2
  | .opened => 1#2
  | .committing => 2#2

/-- The group view word of a record (R18, R118). -/
def Group.word (r : Group) : Word :=
  r.state.code ++ BitVec.ofNat 6 r.entryCount ++ BitVec.ofNat 6 r.written ++ BitVec.ofNat 6 r.failed
    ++ (match r.first with | none => 0#4 | some (_, st) => st.code) ++ r.commitTag.getD 0#8

/-- The word at control address `a`, a multiple of 4 (R176). -/
def State.controlWord (s : State) (a : Nat) : Word :=
  if a = 0x000 then Config.ident
  else if a = 0x004 then s.nodeStatus
  else if a = 0x008 then s.gateWord
  else if a = 0x00C then 0#24 ++ s.limit
  else if a = 0x010 then 0#32
  else if a = 0x014 then s.bankStatus
  else if a = 0x018 then s.queueStatus
  else if a < 0x100 then BitVec.ofNat 32 (s.tallies.counts.getD ((a - 0x040) / 4) 0)
  else if a < 0x200 then (bankEntry s.windows.standbyBank (a / 16)).word (a % 16 / 4)
  else if a < 0x300 then (bankEntry s.windows.activeBank (a / 16)).word (a % 16 / 4)
  else if a < 0x600 then journalWord s.journal ((a - 0x400) / 16) (a % 16 / 4)
  else (s.group (BitVec.ofNat 3 ((a - 0x600) / 4))).word

/-- The bytes a control READ of `n` words from `a` captures (R55, R176). -/
def State.capture (s : State) (a : Nat) : Nat → List Byte
  | 0 => []
  | n + 1 => wordBytes (s.controlWord a) ++ s.capture (a + 4) n

/-! ### Judging a WRITE (R48) -/

/-- A word the node will not apply (R48); `a` is a mapped control address. -/
def State.wordFails (s : State) (a : Nat) (x : Word) : Bool :=
  if a = 0x008 then x.extractLsb' 1 31 != 0#31
  else if a = 0x00C then x.extractLsb' 8 24 != 0#24
  else if a = 0x010 then
    x.toNat == 0 || decide (4 < x.toNat) || (x.toNat == 1 && !s.windows.swapValid)
  else if 0x100 ≤ a ∧ a < 0x200 then
    match a % 16 / 4 with
    | 0 => x.extractLsb' 0 8 != 0#8
    | 1 => x.extractLsb' 24 8 != 0#8 || decide (0x800000 < (x.extractLsb' 0 24).toNat)
    | 2 => x.extractLsb' 0 3 != 0#3
    | _ => x.extractLsb' 3 28 != 0#28
  else true

/-! ### Applying a WRITE (R56, R174, R177) -/

/-- A COMMAND word applies (R174). -/
def State.command (s : State) (value : Nat) : State :=
  match value with
  | 1 => { s with windows := s.windows.swapBanks }
  | 2 => { s with windows := s.windows.copyBank }
  | 3 => { s with tallies := Tallies.zero }
  | 4 => s.localResetCommand
  | _ => s

/-- One word of a taken control WRITE applies (R177). -/
def State.applyWord (s : State) (a : Nat) (x : Word) : State :=
  if a = 0x008 then { s with gate := s.gate.write (x.getLsbD 0) }
  else if a = 0x00C then { s with limit := x.extractLsb' 0 8 }
  else if a = 0x010 then s.command x.toNat
  else { s with windows := s.windows.writeStandby a x }

/-- The words of a taken control WRITE apply in ascending address order (R56). -/
def State.applyWords (s : State) (words : List (Nat × Word)) : State :=
  words.foldl (fun t w => t.applyWord w.1 w.2) s

end Sys2Proof.Machine
end

