-- ==== Sys2Proof/Machine/Form.lean ====
section
/-! DEFINITION. The form check and the work a well-made parcel asks for (R40 to R42, Table 1-1). -/

namespace Sys2Proof.Machine

/-- The work a well-made parcel asks for. -/
inductive Work where
  | memoryRead (address : Word) (n : Nat)
  | memoryWrite (address : Word) (data : List Byte)
  | stage (group : BitVec 3) (address : Word) (data : List Byte)
  | commit (group : BitVec 3)
  | discard (group : BitVec 3)
  | sweep (field : Word) (slots : List Byte)
  | step (credits : Nat)
  | number (v : Word)
  | loopReset
  | controlRead (address : Nat) (words : Nat)
  | controlWrite (words : List (Nat × Word))
  deriving DecidableEq, Repr

/-- A control range of `n` words from `a` is aligned, inside control space and mapped throughout (R42). -/
def controlRangeOk (a : Nat) (n : Nat) : Bool :=
  a % 4 == 0 && decide (a + 4 * n ≤ 0x1000) && (List.range n).all (fun k => mapped (a + 4 * k))

end Sys2Proof.Machine

namespace Sys2Proof

open Machine

/-- LENGTH is the number of bytes given. -/
def Parcel.lengthIn (p : Parcel) (low high : Nat) : Bool :=
  decide (low ≤ p.payload.length) && decide (p.payload.length ≤ high)

/-- The first payload byte as a number. -/
def Parcel.firstByte (p : Parcel) : Nat := (p.payload.headD 0#8).toNat

/-- The header form check (R40, Table 1-1). -/
def Parcel.headerOk (p : Parcel) : Bool :=
  p.zeros == 0#2 && p.dest != 0#5 &&
  match p.kind.toNat with
  | 1 => !p.broadcast && p.lengthIn 1 1
  | 2 =>
    !p.broadcast && (if p.control then p.lengthIn 4 64 && p.payload.length % 4 == 0 else p.lengthIn 1 64)
  | 3 => !p.broadcast && !p.control && p.lengthIn 1 64
  | 4 => !p.control && p.lengthIn 0 0
  | 5 => !p.control && p.lengthIn 0 0
  | 6 => p.broadcast && !p.control && p.lengthIn 36 144 && p.payload.length % 36 == 0
  | 7 => !p.control && p.lengthIn 1 1
  | 8 => p.broadcast && !p.control && p.lengthIn 0 0
  | 9 => p.broadcast && !p.control && p.lengthIn 0 0
  | _ => false

/-- The payload and address form check of a parcel whose header passes (R41, R42). -/
def Parcel.contentOk (p : Parcel) : Bool :=
  match p.kind.toNat with
  | 1 =>
    if p.control then
      p.firstByte % 4 == 0 && decide (4 ≤ p.firstByte) && decide (p.firstByte ≤ 32)
        && controlRangeOk p.address.toNat (p.firstByte / 4)
    else decide (1 ≤ p.firstByte) && decide (p.firstByte ≤ 32)
  | 2 => if p.control then controlRangeOk p.address.toNat (p.payload.length / 4) else true
  | 6 => sweepZerosOk p.address
  | 7 => decide (1 ≤ p.firstByte) && decide (p.firstByte ≤ 15)
  | 8 => p.address != 0#32
  | _ => true

/-- The form check (R40 to R42). -/
def Parcel.formOk (p : Parcel) : Bool := p.headerOk && p.contentOk

/-- The work of a parcel that passes the form check. -/
def Parcel.work (p : Parcel) : Work :=
  match p.kind.toNat with
  | 1 => if p.control then .controlRead p.address.toNat (p.firstByte / 4) else .memoryRead p.address p.firstByte
  | 2 =>
    if p.control then .controlWrite (controlWords p.address.toNat p.payload) else .memoryWrite p.address p.payload
  | 3 => .stage p.group p.address p.payload
  | 4 => .commit p.group
  | 5 => .discard p.group
  | 6 => .sweep p.address p.payload
  | 7 => .step p.firstByte
  | 8 => .number p.address
  | _ => .loopReset

end Sys2Proof
end

