-- ==== Sys2Proof/Machine/Intake.lean ====
section
/-! DEFINITION. Intake: whose parcel it is, the seven checks in their order, and the work a taken parcel hands on
(chapter 3). -/

namespace Sys2Proof.Machine

/-! ### Whose parcel it is (R36, R37) -/

/-- A good parcel is the node's own. -/
def State.owns (s : State) (p : Parcel) : Bool :=
  if p.broadcast then
    match s.loop.loopState with
    | .unnumbered => p.kind == 8#4 || p.kind == 9#4
    | .numbered _ => decide (4 ≤ p.kind.toNat) && decide (p.kind.toNat ≤ 9)
  else p.dest != 0#5 && s.loop.loopState == .numbered p.dest && p.mark == 0#8

/-! ### The checks after form (R43 to R49, Table 3-1) -/

/-- Check 2 applies (R43). -/
def Work.needsLocal : Work → Bool
  | .memoryRead _ _ => true
  | .memoryWrite _ _ => true
  | .stage _ _ _ => true
  | .commit _ => true
  | _ => false

/-- The loop address and length of a memory access (R44). -/
def Work.access : Work → Option (Nat × Nat)
  | .memoryRead a n => some (a.toNat, n)
  | .memoryWrite a data => some (a.toNat, data.length)
  | .stage _ a data => some (a.toNat, data.length)
  | _ => none

/-- The entry carries the right the kind needs (R45). -/
def Work.rightIn (w : Work) (e : WindowEntry) : Bool :=
  match w with
  | .memoryRead _ _ => e.r
  | .memoryWrite _ _ => e.w
  | .stage _ _ _ => e.s
  | _ => true

/-- Check 3 fails (R44). -/
def State.windowFails (s : State) (w : Work) : Bool :=
  match w.access with
  | none => false
  | some (a, n) =>
    match s.windows.lookup a with
    | none => true
    | some e => !e.fits a n

/-- Check 4 fails (R45). -/
def State.rightsFail (s : State) (w : Work) : Bool :=
  match w.access with
  | none => false
  | some (a, _) =>
    match s.windows.lookup a with
    | none => false
    | some e => !w.rightIn e

/-- The group check 5 looks at (R46). -/
def Work.groupOf : Work → Option (BitVec 3)
  | .stage g _ _ => some g
  | .commit g => some g
  | .discard g => some g
  | _ => none

/-- Check 5 fails (R46). -/
def State.groupFails (s : State) (w : Work) : Bool :=
  match w.groupOf with
  | none => false
  | some g => (s.group g).state == .committing

/-- The work needs a journal position (R47). -/
def Work.needsJournal (w : Work) : Bool := w.access.isSome

/-- The work needs a place in the reply queue (R47). -/
def Work.needsReply : Work → Bool
  | .memoryRead _ _ => true
  | .controlRead _ _ => true
  | .commit _ => true
  | .discard _ => true
  | _ => false

/-- Check 6 fails (R47). -/
def State.spaceFails (s : State) (w : Work) : Bool :=
  (w.needsJournal && decide (Config.journalRoom ≤ s.journal.length))
    || (w.needsReply && decide (Config.replyRoom ≤ s.replies.use))

/-- Check 7 fails (R48). -/
def State.contentsFail (s : State) (w : Work) : Bool :=
  match w with
  | .controlWrite words => words.any (fun x => s.wordFails x.1 x.2)
  | _ => false

/-- The code of the first check that fails, or TAKEN (R39). -/
def State.judge (s : State) (p : Parcel) : Disposition :=
  if !p.formOk then .refusedForm
  else if p.work.needsLocal && s.localHeld then .refusedLocal
  else if s.windowFails p.work then .refusedWindow
  else if s.rightsFail p.work then .refusedRights
  else if s.groupFails p.work then .refusedGroup
  else if s.spaceFails p.work then .refusedFull
  else if s.contentsFail p.work then .refusedControl
  else .taken

/-! ### Handing on (R50 to R57) -/

/-- The journal entry of a memory access (R50 to R52). -/
def State.accessEntry (s : State) (kind : EntryKind) (tag : Byte) (a : Word) (n : Nat) (data : List Byte)
    (state : EntryState) : Entry where
  kind := kind
  tag := tag
  address := match s.windows.lookup a.toNat with
    | none => a
    | some e => e.translate a.toNat
  length := n
  data := data
  state := state

/-- A taken memory READ (R50). -/
def State.takeRead (s : State) (tag : Byte) (a : Word) (n : Nat) : State :=
  (s.append (s.accessEntry .read tag a n [] .waiting)).reserve

/-- A taken memory WRITE (R51). -/
def State.takeWrite (s : State) (tag : Byte) (a : Word) (data : List Byte) : State :=
  s.append (s.accessEntry .posted tag a data.length data .waiting)

/-- A taken STAGE (R52, R103). -/
def State.takeStage (s : State) (tag : Byte) (g : BitVec 3) (a : Word) (data : List Byte) : State :=
  (s.append (s.accessEntry (.staged g) tag a data.length data .parked)).setGroup g (s.group g).addEntry

/-- A taken control READ (R55). -/
def State.takeControlRead (s : State) (tag : Byte) (a n : Nat) : State :=
  s.queueReply tag (.controlData (s.capture a n))

/-- A taken sweep's effect on the node (R152): the reply unit and the SLOTS tally. -/
def State.takeSweep (s : State) (field : Word) (slots : List Byte) : State :=
  let out := s.replies.sweep (nodeNumber s.loop.loopState) field slots
  { s with replies := out.2.1, tallies := s.tallies.raiseSlots out.2.2 }

/-- What the owning block does with taken work (R50 to R56). -/
def State.handOn (s : State) (tag : Byte) : Work → State
  | .memoryRead a n => s.takeRead tag a n
  | .memoryWrite a data => s.takeWrite tag a data
  | .stage g a data => s.takeStage tag g a data
  | .commit g => s.commitGroup g tag
  | .discard g => s.discardGroup g tag
  | .sweep field slots => s.takeSweep field slots
  | .step c => { s with gate := s.gate.step c }
  | .number v => { s with loop := { s.loop with loopState := .numbered (v.setWidth 5) } }
  | .loopReset => s.loopReset
  | .controlRead a n => s.takeControlRead tag a n
  | .controlWrite words => s.applyWords words

/-- The fields a taken parcel leaves with, MARK apart (R5): a sweep's slots, a NUMBER's ADDRESS. -/
def State.rewritten (s : State) (p : Parcel) : Parcel :=
  match p.work with
  | .sweep field slots => { p with payload := (s.replies.sweep (nodeNumber s.loop.loopState) field slots).1 }
  | .number v => { p with address := v + 1 }
  | _ => p

/-- The parcel is queued for loop-out with a right check word (R3, R5). -/
def State.forward (s : State) (p : Parcel) : State := s.enqueue (p.run p.check) 0

/-- A unicast parcel gets a disposition (R20, R57): its tally goes up, MARK carries the code, CHECK is recomputed. -/
def State.dispose (s : State) (d : Disposition) (p : Parcel) : State :=
  { s with tallies := s.tallies.disposed d }.forward { p with mark := d.code }

/-- A NUMBER with v of 31 or more (R27). -/
def Work.unnumbers : Work → Bool
  | .number v => decide (31 ≤ v.toNat)
  | _ => false

/-- A good parcel at Intake (chapter 3): not the node's own, it is forwarded untouched (R38); a refused unicast gets its code, a
broadcast that is not taken is forwarded untouched (R39); a taken one hands on its work, and MARK, TAKEN or the take count
follow (R20, R22, R57). -/
def State.intake (s : State) (p : Parcel) : State :=
  if s.owns p then
    match s.judge p with
    | .taken =>
      if p.work.unnumbers then { s with loop := { s.loop with loopState := .unnumbered } }.forward p
      else if p.broadcast then (s.handOn p.tag p.work).forward { s.rewritten p with mark := p.mark + 1 }
      else (s.handOn p.tag p.work).dispose .taken p
    | d => if p.broadcast then s.forward p else s.dispose d p
  else s.forward p

/-! ### Arrival (R3, R6, R7) -/

/-- A correctly framed parcel that carries check word `c` (R7). -/
def State.receive (s : State) (p : Parcel) (c : Half) : State :=
  if c ≠ p.check then
    { s with tallies := s.tallies.raiseDamaged }.forward { p with damaged := true }
  else if p.damaged then s.forward p
  else s.intake p

/-- A run of at most 266 bytes at its last byte (R6). -/
def State.judgeRun (s : State) (run : List Byte) : State :=
  match readParcel run with
  | none => s.raiseFraming.enqueue run 0
  | some (p, c) => s.receive p c

/-- The arrival of a run of bytes. -/
def State.arriveBytes (s : State) (gap : Nat) (run : List Byte) : State :=
  match run with
  | [] => s
  | _ => arriveRun gap run (fun t => t.judgeRun run) s

/-- The arrival of a parcel that carries check word `c`. -/
def State.arriveParcel (s : State) (gap : Nat) (p : Parcel) (c : Half) : State :=
  arriveRun gap (p.run c) (fun t => t.receive p c) s

/-- The arrival of a parcel with a right check word. -/
def State.arrive (s : State) (gap : Nat) (p : Parcel) : State := s.arriveParcel gap p p.check

end Sys2Proof.Machine
end

