-- ==== Sys2Proof/Machine/ControlCommands.lean ====
section
/-! DEFINITION. The meanings of the control-space parcels (chapter 11). -/

namespace Sys2Proof.Machine

/-- CONTROL_READ (R55, R176). -/
def execControlRead (e : Envelope) (address : Word) (readLength : Byte) (s : State) : Host.Outcome State Fault Refusal :=
  .next (s.arrive e.gap (e.parcel 1#4 true address [readLength]))

/-- CONTROL_WRITE (R48, R56, R177). -/
def execControlWrite (e : Envelope) (address : Word) (payload : List Byte) (s : State) :
    Host.Outcome State Fault Refusal :=
  .next (s.arrive e.gap (e.parcel 2#4 true address payload))

/-- GATE (R141). -/
def execGate (e : Envelope) (word : Word) (s : State) : Host.Outcome State Fault Refusal :=
  .next (s.arrive e.gap (e.writeWord 0x008#32 word))

/-- LOCAL_LIMIT (R173). -/
def execLocalLimit (e : Envelope) (word : Word) (s : State) : Host.Outcome State Fault Refusal :=
  .next (s.arrive e.gap (e.writeWord 0x00C#32 word))

/-- SWAP (R70, R71). -/
def execSwap (e : Envelope) (s : State) : Host.Outcome State Fault Refusal :=
  .next (s.arrive e.gap (e.writeWord 0x010#32 1#32))

/-- COPY (R69). -/
def execCopy (e : Envelope) (s : State) : Host.Outcome State Fault Refusal :=
  .next (s.arrive e.gap (e.writeWord 0x010#32 2#32))

/-- CLEAR_TALLIES (R57, R175). -/
def execClearTallies (e : Envelope) (s : State) : Host.Outcome State Fault Refusal :=
  .next (s.arrive e.gap (e.writeWord 0x010#32 3#32))

/-- LOCAL_RESET (R135). -/
def execLocalReset (e : Envelope) (s : State) : Host.Outcome State Fault Refusal :=
  .next (s.arrive e.gap (e.writeWord 0x010#32 4#32))

/-- STANDBY_BANK_WRITE (R67). -/
def execStandbyBankWrite (e : Envelope) (wordIndex : BitVec 6) (words : List Word) (s : State) :
    Host.Outcome State Fault Refusal :=
  .next (s.arrive e.gap (e.parcel 2#4 true (0x100#32 + wordIndex.setWidth 32 * 4#32) (words.flatMap wordBytes)))

end Sys2Proof.Machine
end

