-- ==== Sys2Proof/Machine/LocalCommands.lean ====
section
/-! DEFINITION. The meanings of the happenings at the local side: issue, edges of LCLK, LRST# and ATTN (chapters 7 and 10). -/

namespace Sys2Proof.Machine

/-- ISSUE (R82). -/
def execIssue (s : State) : Host.Outcome State Fault Refusal := .next s.takeIssue

/-- GRANT (R126): an edge with LGNT high. -/
def execGrant (lerr lwait : Bool) (ld : BitVec 64) (s : State) : Host.Outcome State Fault Refusal :=
  .next (s.edge true lerr lwait ld)

/-- GRANT_WAIT_EDGE (R126): an edge with LGNT low. -/
def execGrantWaitEdge (s : State) : Host.Outcome State Fault Refusal := .next (s.edge false false false 0#64)

/-- GRANT_TIMEOUT (R126): an edge with LGNT low. -/
def execGrantTimeout (s : State) : Host.Outcome State Fault Refusal := .next (s.edge false false false 0#64)

/-- BEAT_DONE (R128): an edge with LGNT high, LERR low, LWAIT low. -/
def execBeatDone (ld : BitVec 64) (s : State) : Host.Outcome State Fault Refusal := .next (s.edge true false false ld)

/-- COMPLETION (R128, R131): an edge with LGNT high, LERR low, LWAIT low. -/
def execCompletion (ld : BitVec 64) (s : State) : Host.Outcome State Fault Refusal := .next (s.edge true false false ld)

/-- BEAT_STRETCHED (R127): an edge with LGNT high, LERR low, LWAIT high. -/
def execBeatStretched (s : State) : Host.Outcome State Fault Refusal := .next (s.edge true false true 0#64)

/-- WAIT_TIMEOUT (R129): an edge with LGNT high, LERR low, LWAIT high. -/
def execWaitTimeout (s : State) : Host.Outcome State Fault Refusal := .next (s.edge true false true 0#64)

/-- GRANT_LOST (R127): an edge with LGNT low. -/
def execGrantLost (lerr lwait : Bool) (s : State) : Host.Outcome State Fault Refusal :=
  .next (s.edge false lerr lwait 0#64)

/-- BUS_ERROR (R127): an edge with LGNT high and LERR high. -/
def execBusError (lwait : Bool) (s : State) : Host.Outcome State Fault Refusal := .next (s.edge true true lwait 0#64)

/-- LRST_FALL (R134); held in power-on reset LRST# is not looked at (R34). -/
def execLrstFall (s : State) : Host.Outcome State Fault Refusal :=
  if s.powered = false then .next s
  else if s.lrstLow then .fault .lrstAlreadyLow
  else .next { s.localResetSequence with lrstLow := true }

/-- LRST_RISE (R136). -/
def execLrstRise (s : State) : Host.Outcome State Fault Refusal :=
  if s.powered = false then .next s
  else if s.lrstLow then
    .next (if s.localHeld then { s with lrstLow := false }.enter .idle else { s with lrstLow := false })
  else .fault .lrstAlreadyHigh

/-- ATTN_RISE (R168); held in power-on reset ATTN is not looked at (R34). -/
def execAttnRise (s : State) : Host.Outcome State Fault Refusal :=
  .next (if s.powered then { s with replies := { s.replies with attention := s.replies.attention.rise } } else s)

end Sys2Proof.Machine
end

