-- ==== Sys2Proof/Machine/LoopCommands.lean ====
section
/-! DEFINITION. The meanings of the commands at the loop port: runs that are no parcel, damaged and foreign parcels, sending,
numbering, loop reset and power (chapters 1 and 2). -/

namespace Sys2Proof.Machine

/-- POWER_ON (R34, R138). -/
def execPowerOn (lrstHigh lfiHigh : Bool) (s : State) : Host.Outcome State Fault Refusal :=
  .next (s.powerOn lrstHigh lfiHigh)

/-- SUPPLY_BELOW_RANGE (R34). -/
def execSupplyBelowRange (s : State) : Host.Outcome State Fault Refusal := .next s.powerFail

/-- RUN_DROPPED (R4). -/
def execRunDropped (gap : Nat) (s : State) : Host.Outcome State Fault Refusal := .next (dropAtFirstByte gap s)

/-- OVERLONG_RUN (R4). -/
def execOverlongRun (gap : Nat) (run : List Byte) (s : State) : Host.Outcome State Fault Refusal :=
  .next (s.arriveBytes gap run)

/-- FRAMING_FAULT (R6). -/
def execFramingFault (gap : Nat) (run : List Byte) (s : State) : Host.Outcome State Fault Refusal :=
  .next (s.arriveBytes gap run)

/-- LFI_FALLS (R4). -/
def execLfiFalls (discarded : Nat) (s : State) : Host.Outcome State Fault Refusal := .next (lfiFall discarded s)

/-- DAMAGED (R7). -/
def execDamaged (gap : Nat) (p : Parcel) (check : Half) (s : State) : Host.Outcome State Fault Refusal :=
  .next (s.arriveParcel gap p check)

/-- DAMAGED_SET_ON_ARRIVAL (R7). -/
def execDamagedSetOnArrival (gap : Nat) (p : Parcel) (s : State) : Host.Outcome State Fault Refusal :=
  .next (s.arrive gap { p with damaged := true })

/-- NOT_OWN_PARCEL (R38). -/
def execNotOwnParcel (gap : Nat) (p : Parcel) (s : State) : Host.Outcome State Fault Refusal :=
  .next (s.arrive gap { p with damaged := false })

/-- MALFORMED_PARCEL (R40). -/
def execMalformedParcel (gap : Nat) (p : Parcel) (s : State) : Host.Outcome State Fault Refusal :=
  .next (s.arrive gap { p with damaged := false })

/-- PARCEL_SEND (R3). -/
def execParcelSend (s : State) : Host.Outcome State Fault Refusal :=
  .next (if s.powered then { s with loop := s.loop.sendNext } else s)

/-- NUMBER (R25 to R27). -/
def execNumber (e : Envelope) (v : Word) (s : State) : Host.Outcome State Fault Refusal :=
  .next (s.arrive e.gap (e.parcel 8#4 false v []))

/-- LOOPRESET (R31, R32). -/
def execLoopReset (e : Envelope) (address : Word) (s : State) : Host.Outcome State Fault Refusal :=
  .next (s.arrive e.gap (e.parcel 9#4 false address []))

end Sys2Proof.Machine
end

