-- ==== Sys2Proof/Machine/MemoryCommands.lean ====
section
/-! DEFINITION. The meanings of the memory-space parcels and of STEP and SWEEP (chapters 3, 5, 6, 8 and 9). -/

namespace Sys2Proof.Machine

/-- MEMORY_READ (R50). -/
def execMemoryRead (e : Envelope) (address : Word) (readLength : Byte) (s : State) : Host.Outcome State Fault Refusal :=
  .next (s.arrive e.gap (e.parcel 1#4 false address [readLength]))

/-- MEMORY_WRITE (R51). -/
def execMemoryWrite (e : Envelope) (address : Word) (data : List Byte) (s : State) : Host.Outcome State Fault Refusal :=
  .next (s.arrive e.gap (e.parcel 2#4 false address data))

/-- STAGE (R52, R103). -/
def execStage (e : Envelope) (address : Word) (data : List Byte) (s : State) : Host.Outcome State Fault Refusal :=
  .next (s.arrive e.gap (e.parcel 3#4 false address data))

/-- COMMIT (R105, R106). -/
def execCommit (e : Envelope) (address : Word) (s : State) : Host.Outcome State Fault Refusal :=
  .next (s.arrive e.gap (e.parcel 4#4 false address []))

/-- DISCARD (R108, R109). -/
def execDiscard (e : Envelope) (address : Word) (s : State) : Host.Outcome State Fault Refusal :=
  .next (s.arrive e.gap (e.parcel 5#4 false address []))

/-- SWEEP (R152). -/
def execSweep (e : Envelope) (address : Word) (slots : List Byte) (s : State) : Host.Outcome State Fault Refusal :=
  .next (s.arrive e.gap (e.parcel 6#4 false address slots))

/-- STEP (R142). -/
def execStep (e : Envelope) (address : Word) (credits : Byte) (s : State) : Host.Outcome State Fault Refusal :=
  .next (s.arrive e.gap (e.parcel 7#4 false address [credits]))

end Sys2Proof.Machine
end

