-- ==== Sys2Proof/Machine/Dispatch.lean ====
section
/-! DEFINITION. The effect of each command on everything but the queue. -/

namespace Sys2Proof.Machine

def exec (i : Instr) (s : State) : Host.Outcome State Fault Refusal :=
  match i with
  | .powerOn lrstHigh lfiHigh => Sys2Proof.Machine.execPowerOn lrstHigh lfiHigh s
  | .runDropped gap => Sys2Proof.Machine.execRunDropped gap s
  | .overlongRun gap run => Sys2Proof.Machine.execOverlongRun gap run s
  | .framingFault gap run => Sys2Proof.Machine.execFramingFault gap run s
  | .damaged gap parcel check => Sys2Proof.Machine.execDamaged gap parcel check s
  | .notOwnParcel gap parcel => Sys2Proof.Machine.execNotOwnParcel gap parcel s
  | .parcelSend => Sys2Proof.Machine.execParcelSend s
  | .malformedParcel gap parcel => Sys2Proof.Machine.execMalformedParcel gap parcel s
  | .memoryRead e address readLength => Sys2Proof.Machine.execMemoryRead e address readLength s
  | .memoryWrite e address data => Sys2Proof.Machine.execMemoryWrite e address data s
  | .stage e address data => Sys2Proof.Machine.execStage e address data s
  | .commit e address => Sys2Proof.Machine.execCommit e address s
  | .discard e address => Sys2Proof.Machine.execDiscard e address s
  | .sweep e address slots => Sys2Proof.Machine.execSweep e address slots s
  | .step e address credits => Sys2Proof.Machine.execStep e address credits s
  | .number e v => Sys2Proof.Machine.execNumber e v s
  | .loopReset e address => Sys2Proof.Machine.execLoopReset e address s
  | .controlRead e address readLength => Sys2Proof.Machine.execControlRead e address readLength s
  | .controlWrite e address payload => Sys2Proof.Machine.execControlWrite e address payload s
  | .gate e word => Sys2Proof.Machine.execGate e word s
  | .localLimit e word => Sys2Proof.Machine.execLocalLimit e word s
  | .swap e => Sys2Proof.Machine.execSwap e s
  | .copy e => Sys2Proof.Machine.execCopy e s
  | .clearTallies e => Sys2Proof.Machine.execClearTallies e s
  | .localReset e => Sys2Proof.Machine.execLocalReset e s
  | .standbyBankWrite e wordIndex words => Sys2Proof.Machine.execStandbyBankWrite e wordIndex words s
  | .issue => Sys2Proof.Machine.execIssue s
  | .grant lerr lwait ld => Sys2Proof.Machine.execGrant lerr lwait ld s
  | .beatDone ld => Sys2Proof.Machine.execBeatDone ld s
  | .completion ld => Sys2Proof.Machine.execCompletion ld s
  | .grantTimeout => Sys2Proof.Machine.execGrantTimeout s
  | .waitTimeout => Sys2Proof.Machine.execWaitTimeout s
  | .grantLost lerr lwait => Sys2Proof.Machine.execGrantLost lerr lwait s
  | .busError lwait => Sys2Proof.Machine.execBusError lwait s
  | .lrstFall => Sys2Proof.Machine.execLrstFall s
  | .lrstRise => Sys2Proof.Machine.execLrstRise s
  | .attnRise => Sys2Proof.Machine.execAttnRise s
  | .grantWaitEdge => Sys2Proof.Machine.execGrantWaitEdge s
  | .beatStretched => Sys2Proof.Machine.execBeatStretched s
  | .supplyBelowRange => Sys2Proof.Machine.execSupplyBelowRange s
  | .lfiFalls discarded => Sys2Proof.Machine.execLfiFalls discarded s
  | .damagedSetOnArrival gap parcel => Sys2Proof.Machine.execDamagedSetOnArrival gap parcel s

end Sys2Proof.Machine
end

