-- ==== Sys2Proof/Machine/Step.lean ====
section
/-! DEFINITION. One step: the command at the front of the queue, or, on an empty queue, one byte time at the loop port. -/

namespace Sys2Proof.Machine

/-- One byte time of the loop clock with LFI as it stands (R1, R3; log entry 4); none passes in power-on reset (R34). -/
def tick (s : State) : State := if s.powered then s.pass 1 else s

def step (s : State) : Host.Outcome State Fault Refusal :=
  match s.pending with
  | [] => .next (tick s)
  | c :: rest => exec c { s with pending := rest }

/-- `s` with the command a table word spells at the front of its queue. -/
def State.withFetchWord (s : State) (nbits w : Nat) : State :=
  match decodeTableWord nbits w with
  | none => s
  | some c => { s with pending := c :: s.pending }

end Sys2Proof.Machine
end

