-- ==== Sys2Proof/WellFormed.lean ====
section
/-! DEFINITION. Which commands are well formed: their operands have the shape of their row. A parcel that is malformed for its
kind is the row MALFORMED_PARCEL (or NOT_OWN_PARCEL), not an ill-formed command of the kind's own row. `exec` answers for every
term, well formed or not. -/

namespace Sys2Proof

/-- Runs separate where LFI is low for at least one byte time (R2). -/
def gapOk (gap : Nat) : Bool := decide (1 ≤ gap)

/-- DEST is a node number, 1 to 30 (R8). -/
def unicastDest (d : BitVec 5) : Bool := d != 0#5 && d != 31#5

/-- DEST is a node number or 31 (Table 1-1). -/
def anyDest (d : BitVec 5) : Bool := d != 0#5

/-- The run's byte count is 11 plus its LENGTH byte (R6). -/
def framed (run : List Byte) : Bool :=
  match run with
  | _ :: _ :: _ :: _ :: len :: _ => run.length == 11 + len.toNat
  | _ => false

/-- A payload that LENGTH can count (R8). -/
def payloadOk (p : Parcel) : Bool := decide (p.payload.length ≤ 255)

def Envelope.unicastOk (e : Envelope) : Bool := gapOk e.gap && unicastDest e.dest
def Envelope.anyOk (e : Envelope) : Bool := gapOk e.gap && anyDest e.dest
def Envelope.broadcastOk (e : Envelope) : Bool := gapOk e.gap && e.dest == 31#5

/-- The operands have the shape of the command's row. -/
def wellFormed : Instr → Bool
  | .powerOn _ _ => true
  | .runDropped gap => gapOk gap
  | .overlongRun gap run => gapOk gap && run.length == 267
  | .framingFault gap run => gapOk gap && decide (1 ≤ run.length) && decide (run.length ≤ 266) && !framed run
  | .damaged gap p _ => gapOk gap && payloadOk p
  | .notOwnParcel gap p => gapOk gap && payloadOk p && !p.damaged
  | .parcelSend => true
  | .malformedParcel gap p => gapOk gap && payloadOk p && !p.damaged && unicastDest p.dest && p.mark == 0#8
  | .memoryRead e _ _ => e.unicastOk
  | .memoryWrite e _ data => e.unicastOk && decide (1 ≤ data.length) && decide (data.length ≤ 64)
  | .stage e _ data => e.unicastOk && decide (1 ≤ data.length) && decide (data.length ≤ 64)
  | .commit e _ => e.anyOk
  | .discard e _ => e.anyOk
  | .sweep e _ slots =>
    e.broadcastOk && decide (36 ≤ slots.length) && decide (slots.length ≤ 144) && slots.length % 36 == 0
  | .step e _ _ => e.anyOk
  | .number e _ => e.broadcastOk
  | .loopReset e _ => e.broadcastOk
  | .controlRead e _ _ => e.unicastOk
  | .controlWrite e _ payload =>
    e.unicastOk && decide (4 ≤ payload.length) && decide (payload.length ≤ 64) && payload.length % 4 == 0
  | .gate e _ => e.unicastOk
  | .localLimit e _ => e.unicastOk
  | .swap e => e.unicastOk
  | .copy e => e.unicastOk
  | .clearTallies e => e.unicastOk
  | .localReset e => e.unicastOk
  | .standbyBankWrite e wordIndex words =>
    e.unicastOk && decide (1 ≤ words.length) && decide (words.length ≤ 16)
      && decide (wordIndex.toNat + words.length ≤ 64)
  | .issue => true
  | .grant _ _ _ => true
  | .beatDone _ => true
  | .completion _ => true
  | .grantTimeout => true
  | .waitTimeout => true
  | .grantLost _ _ => true
  | .busError _ => true
  | .lrstFall => true
  | .lrstRise => true
  | .attnRise => true
  | .grantWaitEdge => true
  | .beatStretched => true
  | .supplyBelowRange => true
  | .lfiFalls _ => true
  | .damagedSetOnArrival gap p => gapOk gap && payloadOk p

end Sys2Proof
end

