-- ==== Sys2Proof/Safety.lean ====
section
/-! DEFINITION. The laws the manual says its blocks keep, as predicates of one state (a run is safe when every state in it
keeps them), and the terms the statements use to say when a command does its own work. -/

namespace Sys2Proof.Machine

/-- R140: the credit count never exceeds 15 and is zero whenever the gate is OPEN. -/
def State.gateLaw (s : State) : Prop :=
  s.gate.credits ≤ 15 ∧ (s.gate.mode = .opened → s.gate.credits = 0)

/-- R71: no VALID entry of the active bank has SIZE 0 or a range that runs past 2^32. -/
def State.activeBankLaw (s : State) : Prop := ∀ e ∈ s.windows.activeBank.toList, e.sound = true

/-- R121: while powered, the local bus pins are those of the executor state. -/
def State.pinsLaw (s : State) : Prop := s.powered = true → s.bus = s.executor.pins

/-- R34: LCO runs exactly while powered; while power-on reset holds the part LFO and LREQ are low, LDO carries 00h and LD is not
driven. -/
def State.portLaw (s : State) : Prop :=
  (s.loop.lco = .running ↔ s.powered = true)
    ∧ (s.powered = false → s.loop.lfo = false ∧ s.loop.ldo = 0#8 ∧ s.bus.lreq = false ∧ s.bus.ld = none)

/-- R120, R137: the executor is in RESET exactly while the level of LRST# taken last is low. -/
def State.lrstLaw (s : State) : Prop := s.executor = .reset ↔ s.lrstLow = true

/-- R175: every tally is at most 65535. -/
def State.tallyLaw (s : State) : Prop := ∀ n ∈ s.tallies.counts, n ≤ 65535

/-- R164, R166: at most 4 fault records, and a lost-fault count of at most 255. -/
def State.faultLaw (s : State) : Prop := s.replies.faults.length ≤ 4 ∧ s.replies.lostFaults ≤ 255

/-- R4: the forwarding buffer holds at most 1024 bytes. -/
def State.bufferLaw (s : State) : Prop := s.loop.held ≤ 1024

/-- R23: a node number is 1 to 30. -/
def State.numberLaw (s : State) : Prop := ∀ n, s.loop.loopState = .numbered n → 1 ≤ n.toNat ∧ n.toNat ≤ 30

/-- R80: no entry is ISSUED while an older entry blocks it. -/
def State.overlapLaw (s : State) : Prop :=
  s.journal.Pairwise (fun older younger => younger.isIssued = true → older.blocks younger = false)

/-- R63, R75: an entry's local range never runs past 2^32, its LENGTH is 1 to 64, and a write holds LENGTH bytes. -/
def Entry.rangeOk (e : Entry) : Prop :=
  1 ≤ e.length ∧ e.length ≤ 64 ∧ e.address.toNat + e.length ≤ Config.addressSpace
    ∧ (e.kind = .read → e.length ≤ 32 ∧ e.data = []) ∧ (e.kind ≠ .read → e.data.length = e.length)

def State.rangeLaw (s : State) : Prop := ∀ e ∈ s.journal, e.rangeOk

/-- The operation record, present while an operation is in flight (R120). -/
def Executor.inFlight : Executor → Option Operation
  | .requesting op => some op
  | .transferring op => some op
  | _ => none

/-- Entries that are ISSUED, by executor state (R120). -/
def Executor.issuedCount : Executor → Nat
  | .requesting _ => 1
  | .transferring _ => 1
  | _ => 0

/-- R81, R82, R120: one entry is ISSUED while an operation is in flight and none otherwise, and the journal is empty in
RESET. -/
def State.issuedLaw (s : State) : Prop :=
  s.journal.countP Entry.isIssued = s.executor.issuedCount ∧ (s.executor = .reset → s.journal = [])

/-- R120, R124, R132: the operation in flight holds the ISSUED entry's KIND, TAG, LOCAL ADDRESS, LENGTH and DATA. -/
def State.recordLaw (s : State) : Prop :=
  ∀ op, s.executor.inFlight = some op → ∀ e ∈ s.journal, e.isIssued = true →
    op.kind = e.kind ∧ op.tag = e.tag ∧ op.address = e.address ∧ op.length = e.length ∧ op.data = e.data

/-- R100, R111: what a group's record holds in each state: nothing in EMPTY, an entry count alone in OPEN, a commit TAG in COMMITTING,
and there a first failure exactly when some write has failed; the abandoned count is 0 and the others add up to at most 32. -/
def Group.recordOk (r : Group) : Prop :=
  r.entryCount + r.written + r.failed ≤ 32
    ∧ (r.state = .empty → r = Group.cleared)
    ∧ (r.state = .opened → r = { Group.cleared with state := .opened, entryCount := r.entryCount })
    ∧ (r.state = .committing → r.commitTag ≠ none ∧ r.abandoned = 0 ∧ (r.first = none ↔ r.failed = 0)
        ∧ ∀ f ∈ r.first, f.2 ≠ .ok ∧ f.2 ≠ .abandoned)

/-- R100, R101: every group's record is what its state says; its entry count is the number of its journal entries and is zero exactly
when the group is EMPTY; every PARKED entry belongs to an OPEN group, and every entry of an OPEN group is PARKED. -/
def State.groupLaw (s : State) : Prop :=
  (∀ g, (s.group g).recordOk ∧ (s.group g).entryCount = s.journal.countP (Entry.ofGroup g)
      ∧ ((s.group g).entryCount = 0 ↔ (s.group g).state = .empty))
    ∧ (∀ e ∈ s.journal, e.state = .parked → ∃ g, e.kind = .staged g ∧ (s.group g).state = .opened)
    ∧ (∀ e ∈ s.journal, ∀ g, e.kind = .staged g → (s.group g).state = .opened → e.state = .parked)

/-- The number of groups in COMMITTING. -/
def State.committingCount (s : State) : Nat :=
  groupNumbers.countP (fun g => (s.group g).state == .committing)

/-- R150: the reservation count is the READ entries plus the groups in COMMITTING. -/
def State.reservationLaw (s : State) : Prop :=
  s.replies.reservations = s.journal.countP Entry.isRead + s.committingCount

/-- R74, R149: at most 32 journal entries, and a reply use of at most 16. -/
def State.roomLaw (s : State) : Prop := s.journal.length ≤ 32 ∧ s.replies.use ≤ 16

/-- R120: the operation in flight has 1 to 64 bytes (a READ at most 32), its wait count is at most 4080 and its current beat is
in the beat list; a READ has gathered the bytes of the beats before the current one, and a write none. -/
def Operation.progressOk (op : Operation) (gathered : Nat) : Prop :=
  1 ≤ op.length ∧ op.length ≤ 64 ∧ (op.kind = .read → op.length ≤ 32) ∧ op.wait ≤ 4080
    ∧ op.beat < beatCount op.address.toNat op.length
    ∧ op.gathered.length = (if op.kind = .read then gathered else 0)

def State.operationLaw (s : State) : Prop :=
  match s.executor with
  | .requesting op => op.beat = 0 ∧ op.progressOk 0
  | .transferring op => op.progressOk (op.beatAt - op.address.toNat)
  | _ => True

/-- R14, R151: a reply entry's data fits a slot. -/
def State.dataLaw (s : State) : Prop := ∀ e ∈ s.replies.queue, e.body.data.length ≤ 32

/-- The laws of translation and transfer, which hold one another up. -/
def State.transferLaws (s : State) : Prop := s.activeBankLaw ∧ s.rangeLaw ∧ s.operationLaw ∧ s.dataLaw

/-- The laws of accepted work, which hold one another up. -/
def State.workLaws (s : State) : Prop :=
  s.issuedLaw ∧ s.recordLaw ∧ s.groupLaw ∧ s.reservationLaw ∧ s.roomLaw

/-! ### When a parcel command does its own work -/

/-- Loop-in receives a run that begins `gap` byte times after the last: powered, not discarding, room for 266 bytes (R4, R34). -/
def State.hears (s : State) (gap : Nat) : Bool :=
  s.powered && !s.loop.discarding && decide (266 ≤ (s.pass (max gap 1)).loop.free)

/-- The node in the byte time of the last byte of parcel `p`, nothing judged yet (R3). -/
def State.heard (s : State) (gap : Nat) (p : Parcel) : State := s.pass (max gap 1 + (11 + p.payload.length))

/-- A unicast parcel of this envelope is the node's own (R36). -/
def State.addressed (s : State) (e : Envelope) : Bool :=
  s.loop.loopState == .numbered e.dest && unicastDest e.dest && e.mark == 0#8

/-- The node is NUMBERED (R23). -/
def State.isNumbered (s : State) : Bool := s.loop.loopState != .unnumbered

/-- A COMMIT, DISCARD or STEP of this envelope is the node's own (R36, R37). -/
def State.reached (s : State) (e : Envelope) : Bool := s.addressed e || (e.dest == 31#5 && s.isNumbered)

/-- The answer a taken parcel leaves with: TAKEN and its tally for a unicast (R20, R57), the take count for a broadcast (R22). -/
def State.acknowledge (s : State) (p : Parcel) : State :=
  if p.broadcast then s.forward { p with mark := p.mark + 1 } else s.dispose .taken p

end Sys2Proof.Machine

namespace Sys2Proof

/-- The gap and the good parcel that a parcel command spells. -/
def Instr.arrival : Instr → Option (Nat × Parcel)
  | .notOwnParcel gap p => some (gap, { p with damaged := false })
  | .malformedParcel gap p => some (gap, { p with damaged := false })
  | .memoryRead e a n => some (e.gap, e.parcel 1#4 false a [n])
  | .memoryWrite e a data => some (e.gap, e.parcel 2#4 false a data)
  | .stage e a data => some (e.gap, e.parcel 3#4 false a data)
  | .commit e a => some (e.gap, e.parcel 4#4 false a [])
  | .discard e a => some (e.gap, e.parcel 5#4 false a [])
  | .sweep e a slots => some (e.gap, e.parcel 6#4 false a slots)
  | .step e a c => some (e.gap, e.parcel 7#4 false a [c])
  | .number e v => some (e.gap, e.parcel 8#4 false v [])
  | .loopReset e a => some (e.gap, e.parcel 9#4 false a [])
  | .controlRead e a n => some (e.gap, e.parcel 1#4 true a [n])
  | .controlWrite e a payload => some (e.gap, e.parcel 2#4 true a payload)
  | .gate e w => some (e.gap, e.writeWord 0x008#32 w)
  | .localLimit e w => some (e.gap, e.writeWord 0x00C#32 w)
  | .swap e => some (e.gap, e.writeWord 0x010#32 1#32)
  | .copy e => some (e.gap, e.writeWord 0x010#32 2#32)
  | .clearTallies e => some (e.gap, e.writeWord 0x010#32 3#32)
  | .localReset e => some (e.gap, e.writeWord 0x010#32 4#32)
  | .standbyBankWrite e i words =>
    some (e.gap, e.parcel 2#4 true (0x100#32 + i.setWidth 32 * 4#32) (words.flatMap wordBytes))
  | _ => none

/-- The gap and the bytes of the run that a command at loop-in brings. -/
def Instr.brings : Instr → Option (Nat × List Byte)
  | .overlongRun gap run => some (gap, run)
  | .framingFault gap run => some (gap, run)
  | .damaged gap p check => some (gap, p.run check)
  | .damagedSetOnArrival gap p => some (gap, { p with damaged := true }.run { p with damaged := true }.check)
  | c => c.arrival.map (fun x => (x.1, x.2.run x.2.check))

/-- A happening at the local side or on an input line: an issue, an edge of LCLK, a fall or rise of LRST#, a rise of ATTN. -/
def Instr.atLocalSide : Instr → Bool
  | .issue => true
  | .grant _ _ _ => true
  | .beatDone _ => true
  | .completion _ => true
  | .grantTimeout => true
  | .waitTimeout => true
  | .grantLost _ _ => true
  | .busError _ => true
  | .lrstFall => true
  | .lrstRise => true
  | .attnRise => true
  | .grantWaitEdge => true
  | .beatStretched => true
  | _ => false

end Sys2Proof
end

