-- ==== Sys2Proof/Certificates/Slice0/Obligations.lean ====
section
/-! DEFINITION. The statements for the provers, chapter by chapter. A statement of a command's result gives the whole next
state, so it is also the command's frame; `s.heard gap p` is `s` with only the byte times of parcel `p`'s arrival passed at the
loop port, and `dispose` and `acknowledge` are spelled out by `AnswersToAParcel`. -/

open Sys2Proof Sys2Proof.Machine

/-! ### The machine -/

/-- A step with a command at the front of the queue is that command's `exec` on the state with the queue's rest. -/
def Obligations.StepRunsTheFrontCommand : Prop :=
  ∀ (c : Instr) (rest : List Instr) (s : State), step { s with pending := c :: rest } = exec c { s with pending := rest }

/-- MODEL'S CHOICE (log entry 4): with no command waiting, a step is one byte time of the loop clock, and none passes in
power-on reset (R34). -/
def Obligations.EmptyQueueStepIsOneByteTime : Prop :=
  ∀ s : State, step { s with pending := [] } =
    .next { s with pending := [], loop := if s.powered then s.loop.byteTime else s.loop }

/-- No command reads or writes the queue: with another queue it answers the same outcome with that queue. The queue of waiting
commands is the MODEL'S OWN (log entry 4). -/
def Obligations.CommandsIgnoreTheQueue : Prop :=
  ∀ (c : Instr) (q : List Instr) (s : State),
    exec c { s with pending := q } =
      match exec c s with
      | .next t => .next { t with pending := q }
      | .fault f => .fault f
      | .refused r => .refused r

/-! ### Power (R34, R138) -/

/-- POWER_ON gives every block its loop reset value, whatever stood before, with an empty buffer and the executor by the level
of LRST#; a supply below its range puts the part into power-on reset, where LREQ is low and LD is not driven. The levels of LA,
LBE and LRW are free there (log entry 2); the two idle byte times counted behind the loop-out are the model's reading (log
entry 1). That POWER_ON applies in every state, and that a lost supply leaves every block at its reset value at once with the
level of LRST# held as high, is the MODEL'S reading (log entry 11). -/
def Obligations.PowerOnAndSupplyFailure : Prop :=
  (∀ (lrstHigh lfiHigh : Bool) (s : State), exec (.powerOn lrstHigh lfiHigh) s = .next
    { powered := true
      loop := { loopState := .unnumbered, buffer := [], sending := [], idle := 2, discarding := lfiHigh, lfo := false,
                ldo := 0#8, lco := .running }
      windows := { bankA := Vector.replicate 16 WindowEntry.zero, bankB := Vector.replicate 16 WindowEntry.zero,
                   active := .a, swapCount := 0#16 }
      journal := []
      groups := Vector.replicate 8 Group.cleared
      executor := if lrstHigh then .idle else .reset
      lrstLow := !lrstHigh
      bus := { lreq := false, la := 0#29, lbe := 0#8, lrw := true, ld := none }
      gate := { mode := .opened, credits := 0 }
      replies := { queue := [], reservations := 0, faults := [], lostFaults := 0, attention := .idle }
      limit := 64#8
      tallies := Tallies.zero
      heldDraws := s.heldDraws
      pending := s.pending })
  ∧ (∀ s : State, s.powered = true → ∃ pins : BusPins, pins.lreq = false ∧ pins.ld = none ∧
      exec .supplyBelowRange s = .next
        { State.reset with powered := false, loop := { LoopPort.atReset with lco := .low }, bus := pins
                           heldDraws := s.heldDraws + 1, pending := s.pending })

/-- While power-on reset holds the part, no command but the end of power-on reset does anything. -/
def Obligations.PowerOnResetHoldsThePart : Prop :=
  ∀ (c : Instr) (s : State), s.powered = false → (∀ a b, c ≠ .powerOn a b) → exec c s = .next s

/-! ### The loop port (R1 to R7) -/

/-- PARCEL_SEND: the oldest waiting run begins at the first byte time with 2 idle byte times behind its own last byte and behind
the last byte sent; until then every waiting run waits. -/
def Obligations.ParcelSendBeginsTheOldestRun : Prop :=
  ∀ (s : State) (b : Byte) (rest : List Byte) (waited : Nat) (later : List Queued) (n : Nat),
    s.powered = true → s.loop.buffer = ⟨b :: rest, waited⟩ :: later →
    n = max (2 - waited) (if s.loop.sending = [] then 2 - s.loop.idle else s.loop.sending.length + 2) + 1 →
    exec .parcelSend s = .next { s with loop := s.loop.byteTimes n }
    ∧ s.loop.byteTimes n =
        { s.loop with buffer := later.map (fun q => { q with waited := min (q.waited + n) 2 }), sending := rest,
                      idle := 0, lfo := true, ldo := b }
    ∧ ∀ m < n, (s.loop.byteTimes m).buffer.map (·.bytes) = (b :: rest) :: later.map (·.bytes)

/-- One byte time at loop-out: the bytes leave in order and none is lost or added; a run being sent goes on without a break; a
run begins with 2 idle byte times behind the last byte sent and behind its own; LDO carries 00h while LFO is low. -/
def Obligations.LoopOutKeepsOrderAndGaps : Prop :=
  ∀ l : LoopPort,
    (if l.byteTime.lfo then [l.byteTime.ldo] else []) ++ l.byteTime.sending ++ l.byteTime.buffer.flatMap (·.bytes)
        = l.sending ++ l.buffer.flatMap (·.bytes)
    ∧ (l.sending ≠ [] → l.byteTime.lfo = true)
    ∧ (l.sending = [] → l.byteTime.lfo = true → 2 ≤ l.idle ∧ ∃ q later, l.buffer = q :: later ∧ 2 ≤ q.waited)
    ∧ (l.byteTime.lfo = false → l.byteTime.ldo = 0#8)

/-- RUN_DROPPED, OVERLONG_RUN, FRAMING_FAULT: each raises FRAMING by 1, saturating; the first sends nothing, the second sends its
first 266 bytes, the third is forwarded unchanged. Any command at loop-in whose run begins with fewer than 266 bytes free is
dropped whole in the same way (R4). The MODEL'S readings: the byte times a command takes (log entry 5), that the 266 free bytes
are judged before the first byte's byte time (log entry 9), and that bytes beyond the 267th take no time (log entry 10). -/
def Obligations.RunsThatAreNoParcel : Prop :=
  (∀ (s : State) (gap : Nat), s.powered = true → s.loop.discarding = false → (s.loop.byteTimes (max gap 1)).free < 266 →
    exec (.runDropped gap) s = .next
      { s with loop := { s.loop.byteTimes (max gap 1 + 1) with discarding := true }
               tallies := { s.tallies with framing := min (s.tallies.framing + 1) 65535 } })
  ∧ (∀ (s : State) (gap : Nat) (run : List Byte), s.hears gap = true → 266 < run.length →
    exec (.overlongRun gap run) s = .next
      { s with loop := { s.loop.byteTimes (max gap 1 + 267) with
                          buffer := (s.loop.byteTimes (max gap 1 + 267)).buffer ++ [⟨run.take 266, 1⟩], discarding := true }
               tallies := { s.tallies with framing := min (s.tallies.framing + 1) 65535 } })
  ∧ (∀ (s : State) (gap : Nat) (run : List Byte), s.hears gap = true → 1 ≤ run.length → run.length ≤ 266 →
    framed run = false →
    exec (.framingFault gap run) s = .next
      { s with loop := { s.loop.byteTimes (max gap 1 + run.length) with
                          buffer := (s.loop.byteTimes (max gap 1 + run.length)).buffer ++ [⟨run, 0⟩] }
               tallies := { s.tallies with framing := min (s.tallies.framing + 1) 65535 } })
  ∧ (∀ (c : Instr) (s : State) (gap : Nat) (run : List Byte), c.brings = some (gap, run) → run ≠ [] → s.powered = true →
    s.loop.discarding = false → (s.loop.byteTimes (max gap 1)).free < 266 →
    exec c s = .next
      { s with loop := { s.loop.byteTimes (max gap 1 + min run.length 267) with discarding := true }
               tallies := { s.tallies with framing := min (s.tallies.framing + 1) 65535 } })

/-- While a run is being discarded, the bytes of every command at loop-in only let their byte times pass, and LFI's fall ends the
discarding. That a command's bytes then belong to the run being discarded, its gap being no fall of LFI, is the MODEL'S reading
(log entry 9), as are the byte times (log entries 5 and 10). -/
def Obligations.DiscardingLastsUntilLfiFalls : Prop :=
  ∀ s : State, s.powered = true → s.loop.discarding = true →
    (∀ n : Nat, exec (.lfiFalls n) s = .next { s with loop := { s.loop.byteTimes n with discarding := false } })
    ∧ (∀ (c : Instr) (gap : Nat) (run : List Byte), c.brings = some (gap, run) → run ≠ [] →
        exec c s = .next { s with loop := s.loop.byteTimes (min run.length 267) })
    ∧ (∀ gap : Nat, exec (.runDropped gap) s = .next { s with loop := s.loop.byteTimes 1 })

/-- R7: a wrong check word sets DAMAGED, is replaced by a right one and raises the DAMAGED tally; a parcel that arrives with
DAMAGED set and a right check word is forwarded untouched with no tally; a good parcel is Intake's to decide. -/
def Obligations.DamagedParcelsAreNeverTaken : Prop :=
  ∀ (s : State) (gap : Nat) (p : Parcel), s.hears gap = true → p.payload.length ≤ 255 →
    (∀ check : Half, check ≠ p.check →
      exec (.damaged gap p check) s = .next
        { s.heard gap p with
          loop := { (s.heard gap p).loop with
            buffer := (s.heard gap p).loop.buffer
              ++ [⟨{ p with damaged := true }.run { p with damaged := true }.check, 0⟩] }
          tallies := { s.tallies with damaged := min (s.tallies.damaged + 1) 65535 } })
    ∧ exec (.damagedSetOnArrival gap p) s = .next
        { s.heard gap p with
          loop := { (s.heard gap p).loop with
            buffer := (s.heard gap p).loop.buffer
              ++ [⟨{ p with damaged := true }.run { p with damaged := true }.check, 0⟩] } }
    ∧ (p.damaged = false → exec (.damaged gap p p.check) s = .next ((s.heard gap p).intake p))

/-- Reading a run's bytes as a parcel and writing a parcel's bytes undo each other, and the runs that read as a parcel are the
correctly framed ones (R6, R8). -/
def Obligations.ParcelBytesRoundTrip : Prop :=
  (∀ (p : Parcel) (c : Half), p.payload.length ≤ 255 → readParcel (p.run c) = some (p, c))
  ∧ (∀ (run : List Byte) (p : Parcel) (c : Half), readParcel run = some (p, c) →
      p.run c = run ∧ p.payload.length ≤ 255)
  ∧ (∀ run : List Byte, (readParcel run).isSome = framed run)

/-- The check word (R6): a run of bytes followed by its check word leaves 0 in the register, and changing any one byte changes
the check word. -/
def Obligations.CheckWordDetectsAWrongByte : Prop :=
  (∀ bytes : List Byte, crc (bytes ++ halfBytes (crc bytes)) = 0#16)
  ∧ (∀ (before after : List Byte) (x y : Byte), x ≠ y → crc (before ++ x :: after) ≠ crc (before ++ y :: after))

/-! ### Whose parcel, the checks, the answer (chapter 3) -/

/-- R36, R37: whose a good parcel is. -/
def Obligations.WhoseParcelItIs : Prop :=
  ∀ (s : State) (p : Parcel),
    (p.dest = 0#5 → s.owns p = false)
    ∧ (p.dest ≠ 0#5 → p.dest ≠ 31#5 → (s.owns p = true ↔ s.loop.loopState = .numbered p.dest ∧ p.mark = 0#8))
    ∧ (p.dest = 31#5 → (s.owns p = true ↔
        p.kind ∈ [8#4, 9#4] ∨ (∃ n, s.loop.loopState = .numbered n) ∧ p.kind ∈ [4#4, 5#4, 6#4, 7#4]))

/-- R38: a good parcel that is not the node's own, and a broadcast that is not taken, leave byte for byte as they arrived and
change nothing else; NOT_OWN_PARCEL and every other parcel command then do the same. -/
def Obligations.NotOwnParcelIsForwardedUntouched : Prop :=
  ∀ (s : State) (gap : Nat) (p : Parcel), s.hears gap = true → p.payload.length ≤ 255 → p.damaged = false →
    (s.owns p = false ∨ p.broadcast = true ∧ s.judge p ≠ .taken) →
    exec (.notOwnParcel gap p) s = .next
      { s.heard gap p with
        loop := { (s.heard gap p).loop with buffer := (s.heard gap p).loop.buffer ++ [⟨p.run p.check, 0⟩] } }
    ∧ ∀ c : Instr, c.arrival = some (gap, p) → exec c s = exec (.notOwnParcel gap p) s

/-- R40: the header form check fails in the five cases listed, and an own unicast parcel that fails it is refused with
REFUSED-FORM. -/
def Obligations.MalformedHeaderIsRefused : Prop :=
  (∀ p : Parcel, p.headerOk = false ↔
    (p.kind = 0#4 ∨ 10 ≤ p.kind.toNat)
    ∨ p.zeros ≠ 0#2
    ∨ (p.dest = 0#5 ∨ p.kind ∈ [1#4, 2#4, 3#4] ∧ p.dest = 31#5 ∨ p.kind ∈ [6#4, 8#4, 9#4] ∧ p.dest ≠ 31#5)
    ∨ (p.control = true ∧ p.kind ≠ 1#4 ∧ p.kind ≠ 2#4)
    ∨ (p.kind ∈ [1#4, 7#4] ∧ p.payload.length ≠ 1
        ∨ (p.kind = 2#4 ∧ p.control = false ∨ p.kind = 3#4) ∧ ¬ (1 ≤ p.payload.length ∧ p.payload.length ≤ 64)
        ∨ p.kind = 2#4 ∧ p.control = true
            ∧ ¬ (4 ≤ p.payload.length ∧ p.payload.length ≤ 64 ∧ p.payload.length % 4 = 0)
        ∨ p.kind ∈ [4#4, 5#4, 8#4, 9#4] ∧ p.payload.length ≠ 0
        ∨ p.kind = 6#4 ∧ p.payload.length ∉ [36, 72, 108, 144]))
  ∧ (∀ (s : State) (gap : Nat) (p : Parcel), s.hears gap = true → p.payload.length ≤ 255 → p.damaged = false →
      s.loop.loopState = .numbered p.dest → p.dest ≠ 0#5 → p.dest ≠ 31#5 → p.mark = 0#8 → p.headerOk = false →
      exec (.malformedParcel gap p) s = .next ((s.heard gap p).dispose .refusedForm p))

/-- R39: an own unicast parcel gets the code of the first check that fails, in the order form, local side, window, rights, group,
space, control contents, and changes nothing else; passing all, its work is done and it gets TAKEN. -/
def Obligations.FirstFailingCheckDecides : Prop :=
  ∀ (c : Instr) (gap : Nat) (p : Parcel) (s : State), c.arrival = some (gap, p) → s.hears gap = true →
    p.payload.length ≤ 255 → p.damaged = false → s.owns p = true → p.broadcast = false →
    exec c s = .next (
      match [(!p.formOk, Disposition.refusedForm), (p.work.needsLocal && s.localHeld, .refusedLocal),
          (s.windowFails p.work, .refusedWindow), (s.rightsFail p.work, .refusedRights),
          (s.groupFails p.work, .refusedGroup), (s.spaceFails p.work, .refusedFull),
          (s.contentsFail p.work, .refusedControl)].find? (·.1) with
      | some (_, d) => (s.heard gap p).dispose d p
      | none => ((s.heard gap p).handOn p.tag p.work).dispose .taken p)

/-- R43 to R45: a memory READ, WRITE or STAGE is refused while the local side is held, when the lowest VALID entry that contains
its address is missing or ends before its last byte, and when that entry lacks R, W or S; a COMMIT is refused while held. -/
def Obligations.LocalWindowAndRightsRefusals : Prop :=
  (∀ (c : Instr) (e : Envelope) (a : Word) (n : Nat) (right : WindowEntry → Bool) (p : Parcel) (s : State),
    (∃ k : Byte, c = .memoryRead e a k ∧ n = k.toNat ∧ n ≤ 32 ∧ right = WindowEntry.r)
      ∨ (∃ data, c = .memoryWrite e a data ∧ n = data.length ∧ n ≤ 64 ∧ right = WindowEntry.w)
      ∨ (∃ data, c = .stage e a data ∧ n = data.length ∧ n ≤ 64 ∧ right = WindowEntry.s) →
    1 ≤ n → c.arrival = some (e.gap, p) → s.hears e.gap = true → s.addressed e = true →
    (s.executor = .reset → exec c s = .next ((s.heard e.gap p).dispose .refusedLocal p))
    ∧ (s.executor ≠ .reset →
        (s.windows.lookup a.toNat = none ∨ ∃ w, s.windows.lookup a.toNat = some w ∧ w.loopBase + w.bytes < a.toNat + n) →
        exec c s = .next ((s.heard e.gap p).dispose .refusedWindow p))
    ∧ (s.executor ≠ .reset →
        (∃ w, s.windows.lookup a.toNat = some w ∧ a.toNat + n ≤ w.loopBase + w.bytes ∧ right w = false) →
        exec c s = .next ((s.heard e.gap p).dispose .refusedRights p)))
  ∧ (∀ (e : Envelope) (a : Word) (s : State), s.hears e.gap = true → s.addressed e = true → s.executor = .reset →
      exec (.commit e a) s = .next ((s.heard e.gap (e.parcel 4#4 false a [])).dispose .refusedLocal
        (e.parcel 4#4 false a [])))

/-- R46, R47: COMMIT, DISCARD and STAGE of a COMMITTING group are refused; a memory access finds no room in a journal of 32, and
a READ of memory or of control space, a COMMIT or a DISCARD none at a reply use of 16. -/
def Obligations.GroupAndSpaceRefusals : Prop :=
  (∀ (e : Envelope) (a : Word) (s : State), s.hears e.gap = true → s.addressed e = true →
    ((s.group e.group).state = .committing →
      (s.executor ≠ .reset → exec (.commit e a) s = .next
        ((s.heard e.gap (e.parcel 4#4 false a [])).dispose .refusedGroup (e.parcel 4#4 false a [])))
      ∧ exec (.discard e a) s = .next
        ((s.heard e.gap (e.parcel 5#4 false a [])).dispose .refusedGroup (e.parcel 5#4 false a [])))
    ∧ ((s.group e.group).state ≠ .committing → 16 ≤ s.replies.queue.length + s.replies.reservations →
      (s.executor ≠ .reset → exec (.commit e a) s = .next
        ((s.heard e.gap (e.parcel 4#4 false a [])).dispose .refusedFull (e.parcel 4#4 false a [])))
      ∧ exec (.discard e a) s = .next
        ((s.heard e.gap (e.parcel 5#4 false a [])).dispose .refusedFull (e.parcel 5#4 false a []))))
  ∧ (∀ (e : Envelope) (a : Word) (data : List Byte) (w : WindowEntry) (s : State), s.hears e.gap = true →
      s.addressed e = true → s.executor ≠ .reset → 1 ≤ data.length → data.length ≤ 64 →
      s.windows.lookup a.toNat = some w → a.toNat + data.length ≤ w.loopBase + w.bytes →
      (w.s = true → (s.group e.group).state = .committing → exec (.stage e a data) s = .next
        ((s.heard e.gap (e.parcel 3#4 false a data)).dispose .refusedGroup (e.parcel 3#4 false a data)))
      ∧ (w.w = true → 32 ≤ s.journal.length → exec (.memoryWrite e a data) s = .next
        ((s.heard e.gap (e.parcel 2#4 false a data)).dispose .refusedFull (e.parcel 2#4 false a data)))
      ∧ (w.s = true → 32 ≤ s.journal.length → (s.group e.group).state ≠ .committing → exec (.stage e a data) s = .next
        ((s.heard e.gap (e.parcel 3#4 false a data)).dispose .refusedFull (e.parcel 3#4 false a data))))
  ∧ (∀ (e : Envelope) (a : Word) (n : Byte) (w : WindowEntry) (s : State), s.hears e.gap = true →
      s.addressed e = true → s.executor ≠ .reset → 1 ≤ n.toNat → n.toNat ≤ 32 → s.windows.lookup a.toNat = some w →
      a.toNat + n.toNat ≤ w.loopBase + w.bytes → w.r = true →
      32 ≤ s.journal.length ∨ 16 ≤ s.replies.queue.length + s.replies.reservations →
      exec (.memoryRead e a n) s = .next
        ((s.heard e.gap (e.parcel 1#4 false a [n])).dispose .refusedFull (e.parcel 1#4 false a [n])))
  ∧ (∀ (e : Envelope) (a : Word) (n : Byte) (s : State), s.hears e.gap = true → s.addressed e = true →
      4 ≤ n.toNat → n.toNat ≤ 32 → n.toNat % 4 = 0 → controlRangeOk a.toNat (n.toNat / 4) = true →
      16 ≤ s.replies.queue.length + s.replies.reservations →
      exec (.controlRead e a n) s = .next
        ((s.heard e.gap (e.parcel 1#4 true a [n])).dispose .refusedFull (e.parcel 1#4 true a [n])))

/-- R48: which control words are refused, and that one such word refuses the whole WRITE. -/
def Obligations.RefusedControlContents : Prop :=
  (∀ (s : State) (a : Nat) (x : Word), a % 4 = 0 →
    (a ∈ [0x000, 0x004, 0x014, 0x018] ∨ 0x040 ≤ a ∧ a < 0x06C ∨ 0x200 ≤ a ∧ a < 0x300 ∨ 0x400 ≤ a ∧ a < 0x620 →
      s.wordFails a x = true)
    ∧ (a = 0x008 → (s.wordFails a x = true ↔ 1 < x.toNat))
    ∧ (a = 0x00C → (s.wordFails a x = true ↔ 255 < x.toNat))
    ∧ (a = 0x010 → (s.wordFails a x = true ↔
        x.toNat ∉ [1, 2, 3, 4] ∨ x = 1#32 ∧ ∃ e ∈ s.windows.standbyBank.toList, e.valid = true
          ∧ (e.size = 0#24 ∨ 2 ^ 32 < e.loopBase + e.bytes ∨ 2 ^ 32 < e.localBase + e.bytes)))
    ∧ (0x100 ≤ a → a < 0x200 →
        (a % 16 = 0 → (s.wordFails a x = true ↔ x.toNat % 256 ≠ 0))
        ∧ (a % 16 = 4 → (s.wordFails a x = true ↔ 0x800000 < x.toNat))
        ∧ (a % 16 = 8 → (s.wordFails a x = true ↔ x.toNat % 8 ≠ 0))
        ∧ (a % 16 = 12 → (s.wordFails a x = true ↔ 8 ≤ x.toNat % 2 ^ 31))))
  ∧ (∀ (e : Envelope) (a : Word) (payload : List Byte) (s : State), s.hears e.gap = true → s.addressed e = true →
      4 ≤ payload.length → payload.length ≤ 64 → payload.length % 4 = 0 →
      controlRangeOk a.toNat (payload.length / 4) = true →
      (∃ w ∈ controlWords a.toNat payload, s.wordFails w.1 w.2 = true) →
      exec (.controlWrite e a payload) s = .next
        ((s.heard e.gap (e.parcel 2#4 true a payload)).dispose .refusedControl (e.parcel 2#4 true a payload)))

/-- R20, R22, R57: a disposition writes its code into MARK, recomputes CHECK, queues the parcel and raises its own tally,
saturating at 65535; a taken broadcast leaves with its take count one higher and raises none. -/
def Obligations.AnswersToAParcel : Prop :=
  (∀ (s : State) (d : Disposition) (p : Parcel), s.dispose d p =
    { s with
      tallies := s.tallies.disposed d
      loop := { s.loop with buffer := s.loop.buffer ++ [⟨{ p with mark := d.code }.run { p with mark := d.code }.check, 0⟩] } })
  ∧ (∀ (t : Tallies) (d : Disposition), 1 ≤ d.code.toNat ∧ d.code.toNat ≤ 8
      ∧ (t.disposed d).counts = t.counts.set (d.code.toNat - 1) (min (t.counts.getD (d.code.toNat - 1) 0 + 1) 65535))
  ∧ (∀ (s : State) (p : Parcel), p.dest ≠ 31#5 → s.acknowledge p = s.dispose .taken p)
  ∧ (∀ (s : State) (p : Parcel), p.dest = 31#5 → s.acknowledge p =
    { s with loop := { s.loop with
        buffer := s.loop.buffer ++ [⟨{ p with mark := p.mark + 1#8 }.run { p with mark := p.mark + 1#8 }.check, 0⟩] } })

/-! ### Numbering and loop reset (chapter 2) -/

/-- R26, R27, Table 2-1: a NUMBER with v of 1 to 30 numbers the node and leaves with v + 1; with v of 31 or more it makes the node
UNNUMBERED and leaves as it arrived; with v = 0 nothing happens. -/
def Obligations.NumberGivesOrTakesTheNumber : Prop :=
  ∀ (e : Envelope) (v : Word) (s : State) (p q : Parcel), s.hears e.gap = true → e.dest = 31#5 →
    p = e.parcel 8#4 false v [] → q = { p with address := v + 1#32, mark := e.mark + 1#8 } →
    (1 ≤ v.toNat → v.toNat ≤ 30 → exec (.number e v) s = .next
      { s.heard e.gap p with
        loop := { (s.heard e.gap p).loop with
          loopState := .numbered (BitVec.ofNat 5 v.toNat)
          buffer := (s.heard e.gap p).loop.buffer ++ [⟨q.run q.check, 0⟩] } })
    ∧ (31 ≤ v.toNat → exec (.number e v) s = .next
      { s.heard e.gap p with
        loop := { (s.heard e.gap p).loop with
          loopState := .unnumbered
          buffer := (s.heard e.gap p).loop.buffer ++ [⟨p.run p.check, 0⟩] } })
    ∧ (v = 0#32 → exec (.number e v) s = .next
      { s.heard e.gap p with
        loop := { (s.heard e.gap p).loop with buffer := (s.heard e.gap p).loop.buffer ++ [⟨p.run p.check, 0⟩] } })

/-- R32, R33, R137: a LOOPRESET leaves with its take count one higher; the node becomes UNNUMBERED, keeps its forwarding buffer,
and every other block takes its loop reset values; the executor stays in RESET while LRST# is low. -/
def Obligations.LoopResetEmptiesTheNode : Prop :=
  ∀ (e : Envelope) (a : Word) (s : State) (p q : Parcel), s.hears e.gap = true → e.dest = 31#5 →
    p = e.parcel 9#4 false a [] → q = { p with mark := e.mark + 1#8 } →
    exec (.loopReset e a) s = .next
      { s.heard e.gap p with
        loop := { (s.heard e.gap p).loop with
          loopState := .unnumbered
          buffer := (s.heard e.gap p).loop.buffer ++ [⟨q.run q.check, 0⟩] }
        windows := { bankA := Vector.replicate 16 WindowEntry.zero, bankB := Vector.replicate 16 WindowEntry.zero,
                     active := .a, swapCount := 0#16 }
        journal := []
        groups := Vector.replicate 8 Group.cleared
        executor := if s.lrstLow then .reset else .idle
        bus := { lreq := false, la := 0#29, lbe := 0#8, lrw := true, ld := none }
        gate := { mode := .opened, credits := 0 }
        replies := { queue := [], reservations := 0, faults := [], lostFaults := 0, attention := .idle }
        limit := 64#8
        tallies := Tallies.zero }

/-! ### Memory parcels and groups (chapters 3, 5 and 6) -/

/-- R50: a taken memory READ joins the journal at the tail, WAITING, at its translated address, and takes a reservation. -/
def Obligations.MemoryReadIsTaken : Prop :=
  ∀ (e : Envelope) (a : Word) (n : Byte) (w : WindowEntry) (s : State) (p : Parcel), p = e.parcel 1#4 false a [n] →
    s.hears e.gap = true → s.addressed e = true → s.executor ≠ .reset → 1 ≤ n.toNat → n.toNat ≤ 32 →
    s.windows.lookup a.toNat = some w → a.toNat + n.toNat ≤ w.loopBase + w.bytes → w.r = true →
    s.journal.length < 32 → s.replies.queue.length + s.replies.reservations < 16 →
    exec (.memoryRead e a n) s = .next (
      State.dispose { s.heard e.gap p with
        journal := s.journal ++ [{ kind := .read, tag := e.tag, address := BitVec.ofNat 32 (w.localBase + (a.toNat - w.loopBase)),
                                   length := n.toNat, data := [], state := .waiting }]
        replies := { s.replies with reservations := s.replies.reservations + 1 } } .taken p)

/-- R51: a taken memory WRITE joins the journal at the tail, WAITING, with its data. -/
def Obligations.MemoryWriteIsTaken : Prop :=
  ∀ (e : Envelope) (a : Word) (data : List Byte) (w : WindowEntry) (s : State) (p : Parcel),
    p = e.parcel 2#4 false a data →
    s.hears e.gap = true → s.addressed e = true → s.executor ≠ .reset → 1 ≤ data.length → data.length ≤ 64 →
    s.windows.lookup a.toNat = some w → a.toNat + data.length ≤ w.loopBase + w.bytes → w.w = true →
    s.journal.length < 32 →
    exec (.memoryWrite e a data) s = .next (
      State.dispose { s.heard e.gap p with
        journal := s.journal ++ [{ kind := .posted, tag := e.tag, address := BitVec.ofNat 32 (w.localBase + (a.toNat - w.loopBase)),
                                   length := data.length, data := data, state := .waiting }] } .taken p)

/-- R52, R103: a taken STAGE joins the journal PARKED; an EMPTY group opens with entry
count 1 and everything else of its record cleared, an OPEN one counts one more. -/
def Obligations.StageIsTaken : Prop :=
  ∀ (e : Envelope) (a : Word) (data : List Byte) (w : WindowEntry) (s : State) (p : Parcel) (record : Group),
    p = e.parcel 3#4 false a data →
    s.hears e.gap = true → s.addressed e = true → s.executor ≠ .reset → 1 ≤ data.length → data.length ≤ 64 →
    s.windows.lookup a.toNat = some w → a.toNat + data.length ≤ w.loopBase + w.bytes → w.s = true →
    s.journal.length < 32 →
    ((s.group e.group).state = .empty ∧ record = ⟨.opened, 1, none, 0, 0, 0, none⟩
      ∨ (s.group e.group).state = .opened
        ∧ record = { s.group e.group with entryCount := (s.group e.group).entryCount + 1 }) →
    exec (.stage e a data) s = .next (
      State.dispose { s.heard e.gap p with
        journal := s.journal ++ [{ kind := .staged e.group, tag := e.tag,
                                   address := BitVec.ofNat 32 (w.localBase + (a.toNat - w.loopBase)),
                                   length := data.length, data := data, state := .parked }]
        groups := s.groups.set e.group.toNat record e.group.isLt } .taken p)

/-- R105, R106: a taken COMMIT of an OPEN group wakes its PARKED entries in place, makes it COMMITTING under the COMMIT's TAG and
takes a reservation; of an EMPTY group it queues at once a COMMIT-DONE with STATUS OK, all counts 0 and no first failure. -/
def Obligations.CommitIsTaken : Prop :=
  ∀ (e : Envelope) (a : Word) (s : State) (p : Parcel), p = e.parcel 4#4 false a [] →
    s.hears e.gap = true → s.reached e = true → s.executor ≠ .reset →
    s.replies.queue.length + s.replies.reservations < 16 →
    ((s.group e.group).state = .opened → exec (.commit e a) s = .next (
      State.acknowledge { s.heard e.gap p with
        journal := s.journal.map (fun x =>
          if x.kind = .staged e.group ∧ x.state = .parked then { x with state := .waiting } else x)
        groups := s.groups.set e.group.toNat { s.group e.group with state := .committing, commitTag := some e.tag }
          e.group.isLt
        replies := { s.replies with reservations := s.replies.reservations + 1 } } p))
    ∧ ((s.group e.group).state = .empty → exec (.commit e a) s = .next (
      State.acknowledge { s.heard e.gap p with
        replies := { s.replies with queue := s.replies.queue ++ [⟨e.tag, .commitDone .ok 0 0 0 none, none⟩] }
      } p))

/-- R108, R109: a taken DISCARD of an OPEN group removes its entries from the journal, empties the group and queues a DISCARD-DONE
with its entry count; of an EMPTY group it queues a DISCARD-DONE with removed count 0 and changes no group or journal. -/
def Obligations.DiscardIsTaken : Prop :=
  ∀ (e : Envelope) (a : Word) (s : State) (p : Parcel), p = e.parcel 5#4 false a [] →
    s.hears e.gap = true → s.reached e = true → s.replies.queue.length + s.replies.reservations < 16 →
    ((s.group e.group).state = .opened → exec (.discard e a) s = .next (
      State.acknowledge { s.heard e.gap p with
        journal := s.journal.filter (fun x => x.kind ≠ .staged e.group)
        groups := s.groups.set e.group.toNat Group.cleared e.group.isLt
        replies := { s.replies with
          queue := s.replies.queue ++ [⟨e.tag, .discardDone (s.group e.group).entryCount, none⟩] } } p))
    ∧ ((s.group e.group).state = .empty → exec (.discard e a) s = .next (
      State.acknowledge { s.heard e.gap p with
        replies := { s.replies with queue := s.replies.queue ++ [⟨e.tag, .discardDone 0, none⟩] } } p))

/-- R142: a taken STEP adds its credits, up to 15, while the gate is HELD, and changes nothing while it is OPEN. -/
def Obligations.StepGivesCredits : Prop :=
  ∀ (e : Envelope) (a : Word) (c : Byte) (s : State) (p : Parcel), p = e.parcel 7#4 false a [c] →
    s.hears e.gap = true → s.reached e = true → 1 ≤ c.toNat → c.toNat ≤ 15 →
    (s.gate.mode = .held → exec (.step e a c) s = .next (
      State.acknowledge { s.heard e.gap p with gate := { mode := .held, credits := min (s.gate.credits + c.toNat) 15 } } p))
    ∧ (s.gate.mode = .opened → exec (.step e a c) s = .next ((s.heard e.gap p).acknowledge p))

/-- R61: lookup finds the lowest-index VALID entry of the active bank whose loop range contains the address; R63: the translated
range of an access that fits keeps the address's byte lane and beat count and ends within 2^32. -/
def Obligations.LookupAndTranslation : Prop :=
  (∀ (t : WindowTable) (a : Nat) (w : WindowEntry), t.lookup a = some w ↔
    ∃ (i : Nat) (h : i < 16), t.activeBank[i] = w ∧ w.valid = true ∧ w.loopBase ≤ a ∧ a < w.loopBase + w.bytes
      ∧ ∀ (j : Nat) (hj : j < i), ¬ (t.activeBank[j].valid = true ∧ t.activeBank[j].loopBase ≤ a
          ∧ a < t.activeBank[j].loopBase + t.activeBank[j].bytes))
  ∧ (∀ (w : WindowEntry) (a n : Nat), w.sound = true → w.contains a = true → w.fits a n = true → 1 ≤ n →
      (w.translate a).toNat = w.localBase + (a - w.loopBase)
      ∧ (w.translate a).toNat + n ≤ 2 ^ 32
      ∧ (w.translate a).toNat % 8 = a % 8
      ∧ beatCount (w.translate a).toNat n = beatCount a n)

/-- R78, R79: two entries overlap when their local byte ranges share a byte; an entry is blocked while an older entry that overlaps
it is in the journal, in any state, unless both are READs. -/
def Obligations.OverlapAndBlocking : Prop :=
  (∀ x y : Entry, 1 ≤ x.length → 1 ≤ y.length →
    (x.overlaps y = true ↔ ∃ b : Nat, x.address.toNat ≤ b ∧ b < x.address.toNat + x.length
      ∧ y.address.toNat ≤ b ∧ b < y.address.toNat + y.length))
  ∧ (∀ (j : List Entry) (k : Nat), blockedAt j k = true ↔
      ∃ younger, j[k]? = some younger ∧ ∃ i older, i < k ∧ j[i]? = some older ∧ older.overlaps younger = true
        ∧ ¬ (older.kind = .read ∧ younger.kind = .read))

/-! ### Sweeps (chapters 9 and 10) -/

/-- R152, R156: a taken sweep releases by its CONFIRM NUMBER, then resends if RESEND is set, then fills; it leaves with its slots
as filled and its take count one higher, and SLOTS rises by the slots filled, saturating. -/
def Obligations.SweepIsTaken : Prop :=
  ∀ (e : Envelope) (a : Word) (slots : List Byte) (n : BitVec 5) (s : State) (p : Parcel) (ready : ReplyUnit)
    (out : List Byte × ReplyUnit × Nat),
    p = e.parcel 6#4 false a slots → s.hears e.gap = true → e.dest = 31#5 → s.loop.loopState = .numbered n →
    slots.length ∈ [36, 72, 108, 144] → a.toNat / 2 ^ 9 % 2 ^ 7 = 0 → a.toNat % 2 ^ 8 = 0 →
    ready = (if a.getLsbD 8 then (s.replies.release (a.extractLsb' 16 8)).resend
      else s.replies.release (a.extractLsb' 16 8)) →
    out = fillSlots n (a.extractLsb' 24 8) (slots.length / 36) slots ready →
    exec (.sweep e a slots) s = .next
      { s.heard e.gap p with
        replies := out.2.1
        tallies := { s.tallies with slots := min (s.tallies.slots + out.2.2) 65535 }
        loop := { (s.heard e.gap p).loop with
          buffer := (s.heard e.gap p).loop.buffer ++ [⟨{ p with payload := out.1, mark := e.mark + 1#8 }.run
            { p with payload := out.1, mark := e.mark + 1#8 }.check, 0⟩] } }

/-- R153, R155: an item carried under n leaves on confirm number c when (c - n) mod 256 is below 128, a repeated attention going
back to PENDING; a resend makes every item that is still CARRIED wait again at its own position. -/
def Obligations.ReleaseAndResend : Prop :=
  (∀ (r : ReplyUnit) (c : Byte), r.release c =
    { r with
      queue := r.queue.filter (fun x => match x.carrying with
        | none => true
        | some n => 128 ≤ (c.toNat + 256 - n.toNat) % 256)
      faults := r.faults.filter (fun x => match x.carrying with
        | none => true
        | some n => 128 ≤ (c.toNat + 256 - n.toNat) % 256)
      attention := match r.attention with
        | .carried n again =>
          if 128 ≤ (c.toNat + 256 - n.toNat) % 256 then .carried n again else if again then .pending else .idle
        | x => x })
  ∧ (∀ r : ReplyUnit, r.resend =
    { r with
      queue := r.queue.map (fun x => { x with carrying := none })
      faults := r.faults.map (fun x => { x with carrying := none })
      attention := if r.attention = .idle then .idle else .pending })

/-- R156: what goes into the next empty slot: a PENDING attention, else the oldest QUEUED fault record, else the oldest QUEUED reply
entry, which becomes CARRIED under the sweep number at its own position; nothing when none waits. -/
def Obligations.FillPriority : Prop :=
  ∀ (r : ReplyUnit) (n : Byte),
    (r.attention = .pending → r.place n = some (.attention, { r with attention := .carried n false }))
    ∧ (∀ (before after : List FaultRecord) (f : FaultRecord), r.attention ≠ .pending →
        r.faults = before ++ f :: after → (∀ x ∈ before, x.carrying ≠ none) → f.carrying = none →
        r.place n = some (.fault f, { r with faults := before ++ { f with carrying := some n } :: after }))
    ∧ (∀ (before after : List ReplyEntry) (x : ReplyEntry), r.attention ≠ .pending →
        (∀ f ∈ r.faults, f.carrying ≠ none) → r.queue = before ++ x :: after → (∀ y ∈ before, y.carrying ≠ none) →
        x.carrying = none →
        r.place n = some (.reply x, { r with queue := before ++ { x with carrying := some n } :: after }))
    ∧ (r.attention ≠ .pending → (∀ f ∈ r.faults, f.carrying ≠ none) → (∀ x ∈ r.queue, x.carrying ≠ none) →
        r.place n = none)

/-- R12, R154, R156: filling keeps the sweep's length, leaves every slot that arrived FILLED as it arrived, changes an empty slot
only by filling it, counts the slots it fills, and loses no reply entry, reservation or fault record. Slot by slot, a FILLED slot is
passed over, an empty one becomes the slot of the item that `place` answers, and where it answers none the rest is left. R12 to
R14, R157: the 36 bytes of every item's slot. -/
def Obligations.FillKeepsTheSweepWhole : Prop :=
  (∀ (node : BitVec 5) (n : Byte) (k : Nat) (bytes : List Byte) (r : ReplyUnit) (out : List Byte × ReplyUnit × Nat),
    bytes.length = 36 * k → (∀ x ∈ r.queue, x.body.data.length ≤ 32) → out = fillSlots node n k bytes r →
    out.1.length = bytes.length
    ∧ (∀ i < k,
        (bytes.getD (36 * i) 0#8).msb = true ∧ (out.1.drop (36 * i)).take 36 = (bytes.drop (36 * i)).take 36
        ∨ (bytes.getD (36 * i) 0#8).msb = false ∧ (out.1.getD (36 * i) 0#8).msb = true
        ∨ (bytes.getD (36 * i) 0#8).msb = false ∧ (out.1.drop (36 * i)).take 36 = (bytes.drop (36 * i)).take 36)
    ∧ out.2.2 = (List.range k).countP (fun i =>
        !(bytes.getD (36 * i) 0#8).msb && (out.1.getD (36 * i) 0#8).msb)
    ∧ out.2.1.queue.map (fun x => (x.tag, x.body)) = r.queue.map (fun x => (x.tag, x.body))
    ∧ out.2.1.faults.map (fun x => (x.cause, x.lostBefore)) = r.faults.map (fun x => (x.cause, x.lostBefore))
    ∧ out.2.1.reservations = r.reservations)
  ∧ (∀ (node : BitVec 5) (n : Byte) (k : Nat) (bytes : List Byte) (r : ReplyUnit),
    fillSlots node n 0 bytes r = (bytes, r, 0)
    ∧ ((bytes.headD 0#8).msb = true → fillSlots node n (k + 1) bytes r =
        (bytes.take 36 ++ (fillSlots node n k (bytes.drop 36) r).1, (fillSlots node n k (bytes.drop 36) r).2))
    ∧ ((bytes.headD 0#8).msb = false →
        (∀ (item : Item) (r' : ReplyUnit), r.place n = some (item, r') → fillSlots node n (k + 1) bytes r =
          (item.slot node ++ (fillSlots node n k (bytes.drop 36) r').1, (fillSlots node n k (bytes.drop 36) r').2.1,
            (fillSlots node n k (bytes.drop 36) r').2.2 + 1))
        ∧ (r.place n = none → fillSlots node n (k + 1) bytes r = (bytes, r, 0))))
  ∧ (∀ (node : BitVec 5) (tag : Byte) (st : Status) (data : List Byte) (w f a beat lost : Nat) (first : Byte × Status)
      (address : Word) (carrying : Option Byte) (code : Status → Nat) (row : Nat → Nat → Byte → List Byte → List Byte),
    (code .ok = 0 ∧ code .busError = 1 ∧ code .grantTimeout = 2 ∧ code .waitTimeout = 3 ∧ code .grantLost = 4
      ∧ code .abandoned = 5) →
    (∀ rkind status t d, row rkind status t d =
      [BitVec.ofNat 8 (128 + 16 * rkind + status), BitVec.ofNat 8 (8 * node.toNat), t, BitVec.ofNat 8 d.length] ++ d
        ++ List.replicate (32 - d.length) 0#8) →
    (Item.reply ⟨tag, .readData data, carrying⟩).slot node = row 1 0 tag data
    ∧ (Item.reply ⟨tag, .readError st, carrying⟩).slot node = row 2 (code st) tag []
    ∧ (Item.reply ⟨tag, .controlData data, carrying⟩).slot node = row 3 0 tag data
    ∧ (Item.reply ⟨tag, .commitDone st w f a none, carrying⟩).slot node = row 4 (code st) tag
        [BitVec.ofNat 8 w, BitVec.ofNat 8 f, BitVec.ofNat 8 a, 0#8, 0#8]
    ∧ (Item.reply ⟨tag, .commitDone st w f a (some first), carrying⟩).slot node = row 4 (code st) tag
        [BitVec.ofNat 8 w, BitVec.ofNat 8 f, BitVec.ofNat 8 a, first.1, BitVec.ofNat 8 (code first.2)]
    ∧ (Item.reply ⟨tag, .discardDone w, carrying⟩).slot node = row 5 0 tag [BitVec.ofNat 8 w]
    ∧ (Item.fault ⟨.postedWriteFailed st tag address beat, lost, carrying⟩).slot node = row 6 (code st) tag
        [1#8, BitVec.ofNat 8 beat, BitVec.ofNat 8 (address.toNat / 2 ^ 24), BitVec.ofNat 8 (address.toNat / 2 ^ 16),
          BitVec.ofNat 8 (address.toNat / 2 ^ 8), BitVec.ofNat 8 address.toNat, BitVec.ofNat 8 lost, 0#8]
    ∧ (Item.fault ⟨.localReset w, lost, carrying⟩).slot node = row 6 5 0#8
        [2#8, 0#8, 0#8, 0#8, 0#8, 0#8, BitVec.ofNat 8 lost, BitVec.ofNat 8 w]
    ∧ Item.attention.slot node = row 7 0 0#8 [])

/-! ### Control space (chapter 11) -/

/-- R55, R176: a taken control READ queues at once a CONTROL-DATA entry with the words of its range, in address order, as they stand
in that happening. -/
def Obligations.ControlReadIsTaken : Prop :=
  ∀ (e : Envelope) (a : Word) (n : Byte) (s : State) (p : Parcel), p = e.parcel 1#4 true a [n] →
    s.hears e.gap = true → s.addressed e = true → 4 ≤ n.toNat → n.toNat ≤ 32 → n.toNat % 4 = 0 →
    controlRangeOk a.toNat (n.toNat / 4) = true → s.replies.queue.length + s.replies.reservations < 16 →
    exec (.controlRead e a n) s = .next (
      State.dispose { s.heard e.gap p with
        replies := { s.replies with queue := s.replies.queue ++ [⟨e.tag, .controlData
          ((List.range (n.toNat / 4)).flatMap (fun k => wordBytes (s.controlWord (a.toNat + 4 * k)))), none⟩] }
      } .taken p)

/-- R16 to R19, R72, R98, R118, R163, R172, R173, R175: what every word of control space reads as, field by field. The bounds asked for
are those of the laws that every step keeps. -/
def Obligations.StatusWordsShowTheirOwners : Prop :=
  ∀ s : State,
    s.controlWord 0x000 = 0xC7221601#32
    ∧ s.controlWord 0x010 = 0#32
    ∧ (∀ n : BitVec 5, s.loop.loopState = .numbered n → s.gate.credits ≤ 15 → s.journal.length ≤ 32 →
        (s.controlWord 0x004).toNat = 2 ^ 31 + 2 ^ 24 * n.toNat + (if s.executor = .reset then 2 ^ 23 else 0)
          + (if s.gate.mode = .held then 2 ^ 16 else 0) + 2 ^ 8 * s.gate.credits + s.journal.length)
    ∧ (s.controlWord 0x014).toNat = (if s.windows.active = .b then 2 ^ 16 else 0) + s.windows.swapCount.toNat
    ∧ (∀ k w : Nat, s.journal.length ≤ k → k < 32 → w < 4 → s.controlWord (0x400 + 16 * k + 4 * w) = 0#32)
    ∧ (s.controlWord 0x008).toNat = (if s.gate.mode = .held then 1 else 0)
    ∧ (s.controlWord 0x00C).toNat = s.limit.toNat
    ∧ (s.replies.queue.length ≤ 16 → s.replies.reservations ≤ 16 → s.replies.faults.length ≤ 4 →
        s.replies.lostFaults ≤ 255 →
        (s.controlWord 0x018).toNat =
          2 ^ 27 * s.replies.queue.countP (fun x => x.carrying = none)
            + 2 ^ 22 * s.replies.queue.countP (fun x => x.carrying ≠ none)
            + 2 ^ 17 * s.replies.reservations
            + 2 ^ 14 * s.replies.faults.countP (fun x => x.carrying = none)
            + 2 ^ 11 * s.replies.faults.countP (fun x => x.carrying ≠ none)
            + 2 ^ 3 * s.replies.lostFaults
            + (match s.replies.attention with
                | .idle => 0
                | .pending => 2
                | .carried _ again => 4 + (if again then 1 else 0)))
    ∧ (∀ i n : Nat, [s.tallies.taken, s.tallies.full, s.tallies.window, s.tallies.rights, s.tallies.group, s.tallies.form,
          s.tallies.controlTally, s.tallies.localTally, s.tallies.damaged, s.tallies.framing, s.tallies.slots][i]? = some n →
        n ≤ 65535 → (s.controlWord (0x040 + 4 * i)).toNat = n)
    ∧ (∀ (i base : Nat) (e : WindowEntry) (h : i < 16),
        base = 0x100 ∧ e = s.windows.standbyBank[i] ∨ base = 0x200 ∧ e = s.windows.activeBank[i] →
        (s.controlWord (base + 16 * i)).toNat = e.loopBase
        ∧ (s.controlWord (base + 16 * i + 4)).toNat = e.size.toNat
        ∧ (s.controlWord (base + 16 * i + 8)).toNat = e.localBase
        ∧ (s.controlWord (base + 16 * i + 12)).toNat =
            2 ^ 31 * e.valid.toNat + 4 * e.r.toNat + 2 * e.w.toNat + e.s.toNat)
    ∧ (∀ (k : Nat) (e : Entry), k < 32 → s.journal[k]? = some e → e.length ≤ 64 →
        (s.controlWord (0x400 + 16 * k)).toNat =
          2 ^ 28 * (match e.state with
              | .waiting => 1
              | .parked => 2
              | .issued => 3)
            + (match e.kind with
              | .read => 2 ^ 24
              | .posted => 2 ^ 24 * 2
              | .staged g => 2 ^ 24 * 3 + 2 ^ 19 + 2 ^ 16 * g.toNat)
            + (if blockedAt s.journal k then 2 ^ 23 else 0)
            + 2 ^ 8 * e.tag.toNat + e.length
        ∧ s.controlWord (0x400 + 16 * k + 4) = e.address
        ∧ s.controlWord (0x400 + 16 * k + 8) = 0#32
        ∧ s.controlWord (0x400 + 16 * k + 12) = 0#32)
    ∧ (∀ (g : BitVec 3) (r : Group), r = s.group g → r.entryCount ≤ 32 → r.written ≤ 32 → r.failed ≤ 32 →
        (s.controlWord (0x600 + 4 * g.toNat)).toNat =
          2 ^ 30 * (match r.state with
              | .empty => 0
              | .opened => 1
              | .committing => 2)
            + 2 ^ 24 * r.entryCount + 2 ^ 18 * r.written + 2 ^ 12 * r.failed
            + 2 ^ 8 * (match r.first with
              | none => 0
              | some (_, .ok) => 0
              | some (_, .busError) => 1
              | some (_, .grantTimeout) => 2
              | some (_, .waitTimeout) => 3
              | some (_, .grantLost) => 4
              | some (_, .abandoned) => 5)
            + (r.commitTag.getD 0#8).toNat)

/-- R48, R56: a control WRITE none of whose words fails applies them all in ascending address order; word j of the payload stands
for ADDRESS + 4j (R15). -/
def Obligations.ControlWriteIsTaken : Prop :=
  (∀ (e : Envelope) (a : Word) (payload : List Byte) (s : State) (p : Parcel), p = e.parcel 2#4 true a payload →
    s.hears e.gap = true → s.addressed e = true → 4 ≤ payload.length → payload.length ≤ 64 → payload.length % 4 = 0 →
    controlRangeOk a.toNat (payload.length / 4) = true →
    (∀ w ∈ controlWords a.toNat payload, s.wordFails w.1 w.2 = false) →
    exec (.controlWrite e a payload) s = .next (
      ((controlWords a.toNat payload).foldl (fun t w => t.applyWord w.1 w.2) (s.heard e.gap p)).dispose .taken p))
  ∧ (∀ (a : Nat) (payload : List Byte), payload.length % 4 = 0 →
      (controlWords a payload).map (·.1) = (List.range (payload.length / 4)).map (fun j => a + 4 * j)
      ∧ (controlWords a payload).flatMap (fun w => wordBytes w.2) = payload)

/-- R141, R173: GATE written OPEN opens the gate and clears its credits; HELD holds an OPEN gate with no credits and leaves a HELD
one as it is. LOCAL LIMIT takes its low byte. -/
def Obligations.GateAndLocalLimitWrites : Prop :=
  ∀ (e : Envelope) (x : Word) (s : State), s.hears e.gap = true → s.addressed e = true →
    (x = 0#32 → exec (.gate e x) s = .next (
      State.dispose { s.heard e.gap (e.writeWord 0x008#32 x) with gate := { mode := .opened, credits := 0 } } .taken
        (e.writeWord 0x008#32 x)))
    ∧ (x = 1#32 → exec (.gate e x) s = .next (
      State.dispose { s.heard e.gap (e.writeWord 0x008#32 x) with
        gate := if s.gate.mode = .opened then { mode := .held, credits := 0 } else s.gate } .taken
        (e.writeWord 0x008#32 x)))
    ∧ (x.toNat ≤ 255 → exec (.localLimit e x) s = .next (
      State.dispose { s.heard e.gap (e.writeWord 0x00C#32 x) with limit := BitVec.ofNat 8 x.toNat } .taken
        (e.writeWord 0x00C#32 x)))

/-- R70, R71: SWAP exchanges the banks' roles and raises the swap count, wrapping, when every VALID standby entry has a SIZE of at
least 1 and ranges within 2^32; otherwise it is refused with REFUSED-CONTROL and nothing is changed. -/
def Obligations.SwapIsValidated : Prop :=
  ∀ (e : Envelope) (s : State) (p : Parcel), p = e.writeWord 0x010#32 1#32 → s.hears e.gap = true → s.addressed e = true →
    ((∀ w ∈ s.windows.standbyBank.toList, w.valid = true →
        1 ≤ w.size.toNat ∧ w.loopBase + w.bytes ≤ 2 ^ 32 ∧ w.localBase + w.bytes ≤ 2 ^ 32) →
      exec (.swap e) s = .next (
        State.dispose { s.heard e.gap p with
          windows := { s.windows with active := if s.windows.active = .a then .b else .a
                                      swapCount := s.windows.swapCount + 1#16 } } .taken p))
    ∧ ((∃ w ∈ s.windows.standbyBank.toList, w.valid = true
        ∧ (w.size = 0#24 ∨ 2 ^ 32 < w.loopBase + w.bytes ∨ 2 ^ 32 < w.localBase + w.bytes)) →
      exec (.swap e) s = .next ((s.heard e.gap p).dispose .refusedControl p))

/-- R69: COPY makes the standby bank equal the active bank entry for entry and changes nothing else of the window table. -/
def Obligations.CopyEqualsTheBanks : Prop :=
  ∀ (e : Envelope) (s : State) (p : Parcel), p = e.writeWord 0x010#32 2#32 → s.hears e.gap = true → s.addressed e = true →
    exec (.copy e) s = .next (
      State.dispose { s.heard e.gap p with
        windows := { s.windows with bankA := s.windows.activeBank, bankB := s.windows.activeBank } } .taken p)

/-- R57, R175: CLEAR TALLIES sets all eleven to 0 and its own TAKEN then counts 1. -/
def Obligations.ClearTalliesLeavesOneTaken : Prop :=
  ∀ (e : Envelope) (s : State) (p q : Parcel), p = e.writeWord 0x010#32 3#32 → q = { p with mark := 1#8 } →
    s.hears e.gap = true → s.addressed e = true →
    exec (.clearTallies e) s = .next
      { s.heard e.gap p with
        tallies := { taken := 1, full := 0, window := 0, rights := 0, group := 0, form := 0, controlTally := 0,
                     localTally := 0, damaged := 0, framing := 0, slots := 0 }
        loop := { (s.heard e.gap p).loop with buffer := (s.heard e.gap p).loop.buffer ++ [⟨q.run q.check, 0⟩] } }

/-- R135: COMMAND LOCAL RESET does the local reset sequence in the arrival happening; the executor ends IDLE, or stays in RESET where
it was in RESET. The sequence is the one `LrstFallAndRise` spells out. -/
def Obligations.LocalResetCommandIsMomentary : Prop :=
  ∀ (e : Envelope) (s : State) (p : Parcel), p = e.writeWord 0x010#32 4#32 → s.hears e.gap = true → s.addressed e = true →
    exec (.localReset e) s = .next (
      State.dispose { (s.heard e.gap p).localResetSequence with
        executor := if s.executor = .reset then .reset else .idle } .taken p)

/-- R67: a taken WRITE of standby words leaves the active bank, the selector and the swap count as they were, and every standby word
reads back as written, or as before where the WRITE does not reach it. -/
def Obligations.StandbyBankWriteStoresItsWords : Prop :=
  ∀ (e : Envelope) (i : BitVec 6) (words : List Word) (s : State) (p : Parcel),
    p = e.parcel 2#4 true (BitVec.ofNat 32 (0x100 + 4 * i.toNat)) (words.flatMap wordBytes) →
    s.hears e.gap = true → s.addressed e = true → 1 ≤ words.length → words.length ≤ 16 →
    i.toNat + words.length ≤ 64 →
    (∀ (k : Nat) (h : k < words.length), s.wordFails (0x100 + 4 * (i.toNat + k)) words[k] = false) →
    ∃ t : WindowTable,
      exec (.standbyBankWrite e i words) s = .next (State.dispose { s.heard e.gap p with windows := t } .taken p)
      ∧ t.active = s.windows.active ∧ t.swapCount = s.windows.swapCount ∧ t.activeBank = s.windows.activeBank
      ∧ ∀ k < 64, (bankEntry t.standbyBank (k / 4)).word (k % 4) =
          if i.toNat ≤ k ∧ k < i.toNat + words.length then words.getD (k - i.toNat) 0#32
          else (bankEntry s.windows.standbyBank (k / 4)).word (k % 4)

/-! ### The local executor (chapters 5, 7 and 8) -/

/-- R81, R82, R124, R143: an issue takes the oldest entry that is WAITING and not blocked, from IDLE, when the gate permits; the entry
becomes ISSUED in place, a HELD gate uses one credit, LREQ goes high. Where any of that fails there is no issue (R83). -/
def Obligations.IssueTakesTheOldestReadyEntry : Prop :=
  ∀ s : State, s.powered = true →
    (∀ (k : Nat) (e : Entry), s.executor = .idle → (s.gate.mode = .opened ∨ 0 < s.gate.credits) →
      s.journal[k]? = some e → e.state = .waiting → blockedAt s.journal k = false →
      (∀ i x, i < k → s.journal[i]? = some x → x.state ≠ .waiting ∨ blockedAt s.journal i = true) →
      exec .issue s = .next
        { s with
          journal := s.journal.set k { e with state := .issued }
          gate := if s.gate.mode = .held then { s.gate with credits := s.gate.credits - 1 } else s.gate
          executor := .requesting { kind := e.kind, tag := e.tag, address := e.address, length := e.length, data := e.data,
                                    beat := 0, wait := 0, gathered := [] }
          bus := { lreq := true, la := 0#29, lbe := 0#8, lrw := true, ld := none } })
    ∧ ((s.executor ≠ .idle ∨ s.gate.mode = .held ∧ s.gate.credits = 0
        ∨ ∀ i x, s.journal[i]? = some x → x.state ≠ .waiting ∨ blockedAt s.journal i = true) →
      exec .issue s = .next s)

/-- R125 to R127, R129: an edge with the grant presents beat 0 and clears the wait count; a low edge in REQUESTING and a stretched
edge in TRANSFERRING, below the limit or with none in force, only raise the wait count, held at 4080; in IDLE and RESET an edge
does nothing. -/
def Obligations.GrantAndWaitEdges : Prop :=
  ∀ s : State, s.powered = true →
    (∀ op : Operation, s.executor = .requesting op →
      (∀ (lerr lwait : Bool) (ld : BitVec 64), exec (.grant lerr lwait ld) s = .next
        { s with
          executor := .transferring { op with beat := 0, wait := 0 }
          bus := { lreq := true
                   la := BitVec.ofNat 29 (op.address.toNat / 8)
                   lbe := byteEnables op.address.toNat op.length (op.address.toNat / 8 * 8)
                   lrw := decide (op.kind = .read)
                   ld := if op.kind = .read then none
                     else some (laneData op.address.toNat op.length (op.address.toNat / 8 * 8) op.data) } })
      ∧ ((s.limit = 0#8 ∨ min (op.wait + 1) 4080 < 16 * s.limit.toNat) →
        exec .grantWaitEdge s = .next
          { s with executor := .requesting { op with wait := min (op.wait + 1) 4080 }, bus := BusPins.requesting }))
    ∧ (∀ op : Operation, s.executor = .transferring op →
      (s.limit = 0#8 ∨ min (op.wait + 1) 4080 < 16 * s.limit.toNat) →
      exec .beatStretched s = .next
        { s with executor := .transferring { op with wait := min (op.wait + 1) 4080 }, bus := op.pins })
    ∧ (s.executor = .idle ∨ s.executor = .reset →
      ∀ (lerr lwait : Bool) (ld : BitVec 64), ∀ c ∈ [.grant lerr lwait ld, .beatDone ld, .completion ld, .grantTimeout,
        .waitTimeout, .grantLost lerr lwait, .busError lwait, .grantWaitEdge, .beatStretched], exec c s = .next s)

/-- R121 to R123: the pins in TRANSFERRING; LBE enables exactly the lanes whose bytes lie in the operation's range, a write drives each
enabled lane with the byte of its local address and zero elsewhere, and a READ takes the enabled lanes in ascending order. -/
def Obligations.LanesOfABeat : Prop :=
  (∀ op : Operation, op.pins.lreq = true
    ∧ op.pins.la = BitVec.ofNat 29 (op.address.toNat / 8 + op.beat)
    ∧ op.pins.lbe = byteEnables op.address.toNat op.length ((op.address.toNat / 8 + op.beat) * 8)
    ∧ (op.pins.lrw = true ↔ op.kind = .read)
    ∧ op.pins.ld = if op.kind = .read then none
        else some (laneData op.address.toNat op.length ((op.address.toNat / 8 + op.beat) * 8) op.data))
  ∧ (∀ (a n b : Nat) (data : List Byte) (ld : BitVec 64), ∀ k < 8,
      (byteEnables a n b).getLsbD k = decide (a ≤ b + k ∧ b + k < a + n)
      ∧ (laneData a n b data).extractLsb' (8 * k) 8 =
          (if a ≤ b + k ∧ b + k < a + n then data.getD (b + k - a) 0#8 else 0#8)
      ∧ laneBytes a n b ld = ((List.range 8).filter (fun k => a ≤ b + k ∧ b + k < a + n)).map
          (fun k => ld.extractLsb' (8 * k) 8))
  ∧ (∀ a n : Nat, 1 ≤ n → beatCount a n = (a + n - 1) / 8 - a / 8 + 1
      ∧ ∀ x, a ≤ x → x < a + n → ∃ i < beatCount a n, (a / 8 + i) * 8 ≤ x ∧ x < (a / 8 + i) * 8 + 8)

/-- R126, R127, R129: the edges that end an operation with a failure, and its STATUS; a GRANT-TIMEOUT is reported at beat 0 (R131).
What the end of an operation does is `EndOfAnOperation`. -/
def Obligations.FailingEdges : Prop :=
  ∀ s : State, s.powered = true →
    (∀ op : Operation, s.executor = .requesting op → 1 ≤ s.limit.toNat → 16 * s.limit.toNat ≤ min (op.wait + 1) 4080 →
      exec .grantTimeout s = .next (s.finish { op with beat := 0 } (.failed .grantTimeout)))
    ∧ (∀ op : Operation, s.executor = .transferring op →
      (1 ≤ s.limit.toNat → 16 * s.limit.toNat ≤ min (op.wait + 1) 4080 →
        exec .waitTimeout s = .next (s.finish op (.failed .waitTimeout)))
      ∧ (∀ lerr lwait : Bool, exec (.grantLost lerr lwait) s = .next (s.finish op (.failed .grantLost)))
      ∧ (∀ lwait : Bool, exec (.busError lwait) s = .next (s.finish op (.failed .busError))))

/-- R128: a done beat gathers a READ's enabled bytes; before the last beat the next one is presented with the wait count 0, at the last
the operation ends OK. -/
def Obligations.BeatDoneAndCompletion : Prop :=
  ∀ (s : State) (op next : Operation) (ld : BitVec 64), s.powered = true → s.executor = .transferring op →
    next = { op with gathered := if op.kind = .read then
      op.gathered ++ laneBytes op.address.toNat op.length ((op.address.toNat / 8 + op.beat) * 8) ld else op.gathered } →
    (op.beat + 1 < beatCount op.address.toNat op.length →
      exec (.beatDone ld) s = .next
        { s with executor := .transferring { next with beat := op.beat + 1, wait := 0 }
                 bus := { next with beat := op.beat + 1, wait := 0 }.pins })
    ∧ (op.beat + 1 = beatCount op.address.toNat op.length → exec (.completion ld) s = .next (s.finish next .ok))

/-- R87 to R91, R110 to R112, R131, R165: the end of an operation returns the pins to the idle pattern, leaves the executor IDLE, takes
the ISSUED entry from its position in the journal and accounts for it by kind: a READ's reservation becomes READ-DATA or READ-ERROR,
a failed posted write makes a fault record, and a staged write is counted by its group, which answers its COMMIT at its last entry. -/
def Obligations.EndOfAnOperation : Prop :=
  ∀ (s t : State) (op : Operation) (older younger : List Entry) (e : Entry),
    s.journal = older ++ e :: younger → (∀ x ∈ older, x.state ≠ .issued) → e.state = .issued →
    t = { s with journal := older ++ younger, executor := .idle, bus := BusPins.idle } →
    (e.kind = .read →
      s.finish op .ok = { t with replies := { s.replies with
        queue := s.replies.queue ++ [⟨e.tag, .readData op.gathered, none⟩], reservations := s.replies.reservations - 1 } }
      ∧ ∀ st, s.finish op (.failed st) = { t with replies := { s.replies with
        queue := s.replies.queue ++ [⟨e.tag, .readError st, none⟩], reservations := s.replies.reservations - 1 } })
    ∧ (e.kind = .posted →
      s.finish op .ok = t
      ∧ ∀ st, s.finish op (.failed st) = { t with replies :=
          if s.replies.faults.length < 4 then
            { s.replies with
              faults := s.replies.faults ++ [⟨.postedWriteFailed st e.tag
                (BitVec.ofNat 32 ((op.address.toNat / 8 + op.beat) * 8)) op.beat, s.replies.lostFaults, none⟩]
              lostFaults := 0 }
          else { s.replies with lostFaults := min (s.replies.lostFaults + 1) 255 } })
    ∧ (∀ (g : BitVec 3) (o : Ending) (r : Group), e.kind = .staged g →
      r = (match o with
        | .ok => { s.group g with written := (s.group g).written + 1, entryCount := (s.group g).entryCount - 1 }
        | .failed st => { s.group g with
            failed := (s.group g).failed + 1, entryCount := (s.group g).entryCount - 1
            first := if (s.group g).first = none then some (e.tag, st) else (s.group g).first }) →
      (r.state = .committing → r.entryCount = 0 → s.finish op o =
        { t with
          groups := s.groups.set g.toNat Group.cleared g.isLt
          replies := { s.replies with
            queue := s.replies.queue ++ [⟨r.commitTag.getD 0#8, .commitDone
              (if r.failed = 0 then .ok else (r.first.map (·.2)).getD .ok) r.written r.failed 0
              (if r.failed = 0 then none else r.first), none⟩]
            reservations := s.replies.reservations - 1 } })
      ∧ ((r.state ≠ .committing ∨ r.entryCount ≠ 0) →
        s.finish op o = { t with groups := s.groups.set g.toNat r g.isLt }))

/-- R134, R136: a fall of LRST# abandons the operation, empties the journal, turns every READ's reservation into a READ-ERROR and every
COMMITTING group's into a COMMIT-DONE, both ABANDONED, offers one LOCAL-RESET record, clears the credits and enters RESET; a rise
leaves RESET for IDLE and does nothing else. That a second fall or rise stops is the model's reading of R133 and R136 (log entry 6). -/
def Obligations.LrstFallAndRise : Prop :=
  ∀ s : State, s.powered = true →
    (∀ (made : List ReplyEntry) (lost : Nat), s.lrstLow = false →
      made = (s.journal.filter (fun x => x.kind = .read)).map (fun x => ⟨x.tag, .readError .abandoned, none⟩)
        ++ ([0#3, 1#3, 2#3, 3#3, 4#3, 5#3, 6#3, 7#3].filter (fun g => (s.group g).state = .committing)).map (fun g =>
          ⟨(s.group g).commitTag.getD 0#8, .commitDone .abandoned (s.group g).written (s.group g).failed
            ((s.group g).abandoned + s.journal.countP (fun x => x.kind = .staged g))
            (if (s.group g).failed = 0 then none else (s.group g).first), none⟩) →
      lost = s.journal.countP (fun x => x.kind = .posted) →
      exec .lrstFall s = .next
        { s with
          journal := []
          groups := Vector.replicate 8 Group.cleared
          executor := .reset
          lrstLow := true
          bus := BusPins.idle
          gate := { s.gate with credits := 0 }
          replies := { s.replies with
            queue := s.replies.queue ++ made
            reservations := s.replies.reservations - made.length
            faults := if s.replies.faults.length < 4 then
              s.replies.faults ++ [⟨.localReset lost, s.replies.lostFaults, none⟩] else s.replies.faults
            lostFaults := if s.replies.faults.length < 4 then 0 else min (s.replies.lostFaults + 1) 255 } })
    ∧ (s.lrstLow = true → s.executor = .reset →
      exec .lrstRise s = .next { s with lrstLow := false, executor := .idle, bus := BusPins.idle })
    ∧ (s.lrstLow = true → exec .lrstFall s = .fault .lrstAlreadyLow)
    ∧ (s.lrstLow = false → exec .lrstRise s = .fault .lrstAlreadyHigh)

/-- R168: a rising edge of ATTN makes an IDLE report PENDING and sets REPEAT in a CARRIED one, and changes nothing else. -/
def Obligations.AttnRiseAsksForAttention : Prop :=
  ∀ s : State, s.powered = true →
    exec .attnRise s = .next { s with replies := { s.replies with attention :=
      match s.replies.attention with
      | .carried n _ => .carried n true
      | _ => .pending } }

/-! ### Invariants -/

/-- R74, R81, R82, R100, R101, R111, R120, R124, R132, R149, R150: the laws of accepted work are kept by every step: the one ISSUED entry
and its operation record, the group records, the reservations and the room. -/
def Obligations.EveryStepKeepsTheWorkLaws : Prop :=
  ∀ s t : State, s.workLaws → step s = .next t → t.workLaws

/-- R80: every step keeps the law that no entry is ISSUED behind an older entry that blocks it. -/
def Obligations.EveryStepKeepsTheOverlapLaw : Prop :=
  ∀ s t : State, s.overlapLaw → step s = .next t → t.overlapLaw

/-- R63, R71, R75, R120: every step keeps the laws of translation and transfer. -/
def Obligations.EveryStepKeepsTheTransferLaws : Prop :=
  ∀ s t : State, s.transferLaws → step s = .next t → t.transferLaws

/-- R23, R34, R121, R137, R140, R164, R166, R175: every step keeps each of the laws of the gate, the pins, the pins in power-on reset and
LCO, the level of LRST#, the node number, the tallies and the fault list. -/
def Obligations.EveryStepKeepsTheRegisterLaws : Prop :=
  ∀ s t : State, step s = .next t →
    (s.gateLaw → t.gateLaw) ∧ (s.pinsLaw → t.pinsLaw) ∧ (s.portLaw → t.portLaw) ∧ (s.lrstLaw → t.lrstLaw)
      ∧ (s.numberLaw → t.numberLaw)
      ∧ (s.tallyLaw → t.tallyLaw) ∧ (s.faultLaw → t.faultLaw)

/-- R4: the forwarding buffer never holds more than 1024 bytes. The transfer laws, kept by every step, are a premise: they bound the
data of a slot. -/
def Obligations.EveryStepKeepsTheBufferLaw : Prop :=
  ∀ s t : State, s.transferLaws → s.bufferLaw → step s = .next t → t.bufferLaw

/-- The reset state keeps every law, so the invariants hold in every run from it. -/
def Obligations.LawsHoldAtReset : Prop :=
  State.reset.workLaws ∧ State.reset.overlapLaw ∧ State.reset.transferLaws ∧ State.reset.gateLaw ∧ State.reset.pinsLaw
    ∧ State.reset.portLaw ∧ State.reset.lrstLaw ∧ State.reset.numberLaw ∧ State.reset.tallyLaw ∧ State.reset.faultLaw
    ∧ State.reset.bufferLaw

/-! ### Rules over all commands -/

/-- R149, R154: no happening at the local side removes or moves a reply entry or a fault record or lowers reply use; it only converts
reservations and adds at the tails. -/
def Obligations.LocalSideOnlyConverts : Prop :=
  ∀ (c : Instr) (s t : State), c.atLocalSide = true → s.workLaws → exec c s = .next t →
    (∃ replies, t.replies.queue = s.replies.queue ++ replies)
    ∧ (∃ records, t.replies.faults = s.replies.faults ++ records)
    ∧ t.replies.use = s.replies.use

/-- R66, R74, R75: in every step the journal keeps its order, at most one entry joins, at the tail, and no entry's KIND, GROUP, TAG,
LOCAL ADDRESS, LENGTH or DATA ever changes, whatever becomes of the window table. -/
def Obligations.JournalKeepsOrderAndFields : Prop :=
  ∀ s t : State, step s = .next t →
    ∃ kept joined : List Entry, kept.Sublist (s.journal.map (fun e => { e with state := .waiting }))
      ∧ joined.length ≤ 1
      ∧ t.journal.map (fun e => { e with state := .waiting }) = kept ++ joined

/-- R68, R69, R71: the active bank only ever changes by becoming the standby bank that a SWAP has validated, or by a reset, which
clears every entry. -/
def Obligations.ActiveBankChangesOnlyBySwap : Prop :=
  ∀ s t : State, step s = .next t →
    t.windows.activeBank = s.windows.activeBank
    ∨ t.windows.activeBank = s.windows.standbyBank ∧ s.windows.standbyBank.toList.all WindowEntry.sound = true
    ∨ t.windows.activeBank = Vector.replicate 16 WindowEntry.zero
end

