-- ==== Sys2Proof/Laws/State.lean ====
section
/-! SUPPORT. One lemma per field per named update of State, true by rfl, for the simp set of every later proof. -/

namespace Sys2Proof.Machine

variable (s : State)

/-! ### pass -/

@[simp] theorem State.pass_powered (n : Nat) : (s.pass n).powered = s.powered := rfl
@[simp] theorem State.pass_loop (n : Nat) : (s.pass n).loop = s.loop.byteTimes n := rfl
@[simp] theorem State.pass_windows (n : Nat) : (s.pass n).windows = s.windows := rfl
@[simp] theorem State.pass_journal (n : Nat) : (s.pass n).journal = s.journal := rfl
@[simp] theorem State.pass_groups (n : Nat) : (s.pass n).groups = s.groups := rfl
@[simp] theorem State.pass_executor (n : Nat) : (s.pass n).executor = s.executor := rfl
@[simp] theorem State.pass_lrstLow (n : Nat) : (s.pass n).lrstLow = s.lrstLow := rfl
@[simp] theorem State.pass_bus (n : Nat) : (s.pass n).bus = s.bus := rfl
@[simp] theorem State.pass_gate (n : Nat) : (s.pass n).gate = s.gate := rfl
@[simp] theorem State.pass_replies (n : Nat) : (s.pass n).replies = s.replies := rfl
@[simp] theorem State.pass_limit (n : Nat) : (s.pass n).limit = s.limit := rfl
@[simp] theorem State.pass_tallies (n : Nat) : (s.pass n).tallies = s.tallies := rfl
@[simp] theorem State.pass_heldDraws (n : Nat) : (s.pass n).heldDraws = s.heldDraws := rfl
@[simp] theorem State.pass_pending (n : Nat) : (s.pass n).pending = s.pending := rfl

/-! ### enqueue -/

@[simp] theorem State.enqueue_powered (bytes : List Byte) (w : Nat) : (s.enqueue bytes w).powered = s.powered := rfl
@[simp] theorem State.enqueue_loop (bytes : List Byte) (w : Nat) : (s.enqueue bytes w).loop = { s.loop with buffer := s.loop.buffer ++ [⟨bytes, w⟩] } := rfl
@[simp] theorem State.enqueue_windows (bytes : List Byte) (w : Nat) : (s.enqueue bytes w).windows = s.windows := rfl
@[simp] theorem State.enqueue_journal (bytes : List Byte) (w : Nat) : (s.enqueue bytes w).journal = s.journal := rfl
@[simp] theorem State.enqueue_groups (bytes : List Byte) (w : Nat) : (s.enqueue bytes w).groups = s.groups := rfl
@[simp] theorem State.enqueue_executor (bytes : List Byte) (w : Nat) : (s.enqueue bytes w).executor = s.executor := rfl
@[simp] theorem State.enqueue_lrstLow (bytes : List Byte) (w : Nat) : (s.enqueue bytes w).lrstLow = s.lrstLow := rfl
@[simp] theorem State.enqueue_bus (bytes : List Byte) (w : Nat) : (s.enqueue bytes w).bus = s.bus := rfl
@[simp] theorem State.enqueue_gate (bytes : List Byte) (w : Nat) : (s.enqueue bytes w).gate = s.gate := rfl
@[simp] theorem State.enqueue_replies (bytes : List Byte) (w : Nat) : (s.enqueue bytes w).replies = s.replies := rfl
@[simp] theorem State.enqueue_limit (bytes : List Byte) (w : Nat) : (s.enqueue bytes w).limit = s.limit := rfl
@[simp] theorem State.enqueue_tallies (bytes : List Byte) (w : Nat) : (s.enqueue bytes w).tallies = s.tallies := rfl
@[simp] theorem State.enqueue_heldDraws (bytes : List Byte) (w : Nat) : (s.enqueue bytes w).heldDraws = s.heldDraws := rfl
@[simp] theorem State.enqueue_pending (bytes : List Byte) (w : Nat) : (s.enqueue bytes w).pending = s.pending := rfl

/-! ### discardRun -/

@[simp] theorem State.discardRun_powered : (s.discardRun).powered = s.powered := rfl
@[simp] theorem State.discardRun_loop : (s.discardRun).loop = { s.loop with discarding := true } := rfl
@[simp] theorem State.discardRun_windows : (s.discardRun).windows = s.windows := rfl
@[simp] theorem State.discardRun_journal : (s.discardRun).journal = s.journal := rfl
@[simp] theorem State.discardRun_groups : (s.discardRun).groups = s.groups := rfl
@[simp] theorem State.discardRun_executor : (s.discardRun).executor = s.executor := rfl
@[simp] theorem State.discardRun_lrstLow : (s.discardRun).lrstLow = s.lrstLow := rfl
@[simp] theorem State.discardRun_bus : (s.discardRun).bus = s.bus := rfl
@[simp] theorem State.discardRun_gate : (s.discardRun).gate = s.gate := rfl
@[simp] theorem State.discardRun_replies : (s.discardRun).replies = s.replies := rfl
@[simp] theorem State.discardRun_limit : (s.discardRun).limit = s.limit := rfl
@[simp] theorem State.discardRun_tallies : (s.discardRun).tallies = s.tallies := rfl
@[simp] theorem State.discardRun_heldDraws : (s.discardRun).heldDraws = s.heldDraws := rfl
@[simp] theorem State.discardRun_pending : (s.discardRun).pending = s.pending := rfl

/-! ### raiseFraming -/

@[simp] theorem State.raiseFraming_powered : (s.raiseFraming).powered = s.powered := rfl
@[simp] theorem State.raiseFraming_loop : (s.raiseFraming).loop = s.loop := rfl
@[simp] theorem State.raiseFraming_windows : (s.raiseFraming).windows = s.windows := rfl
@[simp] theorem State.raiseFraming_journal : (s.raiseFraming).journal = s.journal := rfl
@[simp] theorem State.raiseFraming_groups : (s.raiseFraming).groups = s.groups := rfl
@[simp] theorem State.raiseFraming_executor : (s.raiseFraming).executor = s.executor := rfl
@[simp] theorem State.raiseFraming_lrstLow : (s.raiseFraming).lrstLow = s.lrstLow := rfl
@[simp] theorem State.raiseFraming_bus : (s.raiseFraming).bus = s.bus := rfl
@[simp] theorem State.raiseFraming_gate : (s.raiseFraming).gate = s.gate := rfl
@[simp] theorem State.raiseFraming_replies : (s.raiseFraming).replies = s.replies := rfl
@[simp] theorem State.raiseFraming_limit : (s.raiseFraming).limit = s.limit := rfl
@[simp] theorem State.raiseFraming_tallies : (s.raiseFraming).tallies = s.tallies.raiseFraming := rfl
@[simp] theorem State.raiseFraming_heldDraws : (s.raiseFraming).heldDraws = s.heldDraws := rfl
@[simp] theorem State.raiseFraming_pending : (s.raiseFraming).pending = s.pending := rfl

/-! ### append -/

@[simp] theorem State.append_powered (e : Entry) : (s.append e).powered = s.powered := rfl
@[simp] theorem State.append_loop (e : Entry) : (s.append e).loop = s.loop := rfl
@[simp] theorem State.append_windows (e : Entry) : (s.append e).windows = s.windows := rfl
@[simp] theorem State.append_journal (e : Entry) : (s.append e).journal = s.journal ++ [e] := rfl
@[simp] theorem State.append_groups (e : Entry) : (s.append e).groups = s.groups := rfl
@[simp] theorem State.append_executor (e : Entry) : (s.append e).executor = s.executor := rfl
@[simp] theorem State.append_lrstLow (e : Entry) : (s.append e).lrstLow = s.lrstLow := rfl
@[simp] theorem State.append_bus (e : Entry) : (s.append e).bus = s.bus := rfl
@[simp] theorem State.append_gate (e : Entry) : (s.append e).gate = s.gate := rfl
@[simp] theorem State.append_replies (e : Entry) : (s.append e).replies = s.replies := rfl
@[simp] theorem State.append_limit (e : Entry) : (s.append e).limit = s.limit := rfl
@[simp] theorem State.append_tallies (e : Entry) : (s.append e).tallies = s.tallies := rfl
@[simp] theorem State.append_heldDraws (e : Entry) : (s.append e).heldDraws = s.heldDraws := rfl
@[simp] theorem State.append_pending (e : Entry) : (s.append e).pending = s.pending := rfl

/-! ### setGroup -/

@[simp] theorem State.setGroup_powered (g : BitVec 3) (r : Group) : (s.setGroup g r).powered = s.powered := rfl
@[simp] theorem State.setGroup_loop (g : BitVec 3) (r : Group) : (s.setGroup g r).loop = s.loop := rfl
@[simp] theorem State.setGroup_windows (g : BitVec 3) (r : Group) : (s.setGroup g r).windows = s.windows := rfl
@[simp] theorem State.setGroup_journal (g : BitVec 3) (r : Group) : (s.setGroup g r).journal = s.journal := rfl
@[simp] theorem State.setGroup_groups (g : BitVec 3) (r : Group) : (s.setGroup g r).groups = s.groups.set g.toNat r g.isLt := rfl
@[simp] theorem State.setGroup_executor (g : BitVec 3) (r : Group) : (s.setGroup g r).executor = s.executor := rfl
@[simp] theorem State.setGroup_lrstLow (g : BitVec 3) (r : Group) : (s.setGroup g r).lrstLow = s.lrstLow := rfl
@[simp] theorem State.setGroup_bus (g : BitVec 3) (r : Group) : (s.setGroup g r).bus = s.bus := rfl
@[simp] theorem State.setGroup_gate (g : BitVec 3) (r : Group) : (s.setGroup g r).gate = s.gate := rfl
@[simp] theorem State.setGroup_replies (g : BitVec 3) (r : Group) : (s.setGroup g r).replies = s.replies := rfl
@[simp] theorem State.setGroup_limit (g : BitVec 3) (r : Group) : (s.setGroup g r).limit = s.limit := rfl
@[simp] theorem State.setGroup_tallies (g : BitVec 3) (r : Group) : (s.setGroup g r).tallies = s.tallies := rfl
@[simp] theorem State.setGroup_heldDraws (g : BitVec 3) (r : Group) : (s.setGroup g r).heldDraws = s.heldDraws := rfl
@[simp] theorem State.setGroup_pending (g : BitVec 3) (r : Group) : (s.setGroup g r).pending = s.pending := rfl

/-! ### queueReply -/

@[simp] theorem State.queueReply_powered (tag : Byte) (b : ReplyBody) : (s.queueReply tag b).powered = s.powered := rfl
@[simp] theorem State.queueReply_loop (tag : Byte) (b : ReplyBody) : (s.queueReply tag b).loop = s.loop := rfl
@[simp] theorem State.queueReply_windows (tag : Byte) (b : ReplyBody) : (s.queueReply tag b).windows = s.windows := rfl
@[simp] theorem State.queueReply_journal (tag : Byte) (b : ReplyBody) : (s.queueReply tag b).journal = s.journal := rfl
@[simp] theorem State.queueReply_groups (tag : Byte) (b : ReplyBody) : (s.queueReply tag b).groups = s.groups := rfl
@[simp] theorem State.queueReply_executor (tag : Byte) (b : ReplyBody) : (s.queueReply tag b).executor = s.executor := rfl
@[simp] theorem State.queueReply_lrstLow (tag : Byte) (b : ReplyBody) : (s.queueReply tag b).lrstLow = s.lrstLow := rfl
@[simp] theorem State.queueReply_bus (tag : Byte) (b : ReplyBody) : (s.queueReply tag b).bus = s.bus := rfl
@[simp] theorem State.queueReply_gate (tag : Byte) (b : ReplyBody) : (s.queueReply tag b).gate = s.gate := rfl
@[simp] theorem State.queueReply_replies (tag : Byte) (b : ReplyBody) : (s.queueReply tag b).replies = { s.replies with queue := s.replies.queue ++ [⟨tag, b, none⟩] } := rfl
@[simp] theorem State.queueReply_limit (tag : Byte) (b : ReplyBody) : (s.queueReply tag b).limit = s.limit := rfl
@[simp] theorem State.queueReply_tallies (tag : Byte) (b : ReplyBody) : (s.queueReply tag b).tallies = s.tallies := rfl
@[simp] theorem State.queueReply_heldDraws (tag : Byte) (b : ReplyBody) : (s.queueReply tag b).heldDraws = s.heldDraws := rfl
@[simp] theorem State.queueReply_pending (tag : Byte) (b : ReplyBody) : (s.queueReply tag b).pending = s.pending := rfl

/-! ### reserve -/

@[simp] theorem State.reserve_powered : (s.reserve).powered = s.powered := rfl
@[simp] theorem State.reserve_loop : (s.reserve).loop = s.loop := rfl
@[simp] theorem State.reserve_windows : (s.reserve).windows = s.windows := rfl
@[simp] theorem State.reserve_journal : (s.reserve).journal = s.journal := rfl
@[simp] theorem State.reserve_groups : (s.reserve).groups = s.groups := rfl
@[simp] theorem State.reserve_executor : (s.reserve).executor = s.executor := rfl
@[simp] theorem State.reserve_lrstLow : (s.reserve).lrstLow = s.lrstLow := rfl
@[simp] theorem State.reserve_bus : (s.reserve).bus = s.bus := rfl
@[simp] theorem State.reserve_gate : (s.reserve).gate = s.gate := rfl
@[simp] theorem State.reserve_replies : (s.reserve).replies = { s.replies with reservations := s.replies.reservations + 1 } := rfl
@[simp] theorem State.reserve_limit : (s.reserve).limit = s.limit := rfl
@[simp] theorem State.reserve_tallies : (s.reserve).tallies = s.tallies := rfl
@[simp] theorem State.reserve_heldDraws : (s.reserve).heldDraws = s.heldDraws := rfl
@[simp] theorem State.reserve_pending : (s.reserve).pending = s.pending := rfl

/-! ### convertReply -/

@[simp] theorem State.convertReply_powered (tag : Byte) (b : ReplyBody) : (s.convertReply tag b).powered = s.powered := rfl
@[simp] theorem State.convertReply_loop (tag : Byte) (b : ReplyBody) : (s.convertReply tag b).loop = s.loop := rfl
@[simp] theorem State.convertReply_windows (tag : Byte) (b : ReplyBody) : (s.convertReply tag b).windows = s.windows := rfl
@[simp] theorem State.convertReply_journal (tag : Byte) (b : ReplyBody) : (s.convertReply tag b).journal = s.journal := rfl
@[simp] theorem State.convertReply_groups (tag : Byte) (b : ReplyBody) : (s.convertReply tag b).groups = s.groups := rfl
@[simp] theorem State.convertReply_executor (tag : Byte) (b : ReplyBody) : (s.convertReply tag b).executor = s.executor := rfl
@[simp] theorem State.convertReply_lrstLow (tag : Byte) (b : ReplyBody) : (s.convertReply tag b).lrstLow = s.lrstLow := rfl
@[simp] theorem State.convertReply_bus (tag : Byte) (b : ReplyBody) : (s.convertReply tag b).bus = s.bus := rfl
@[simp] theorem State.convertReply_gate (tag : Byte) (b : ReplyBody) : (s.convertReply tag b).gate = s.gate := rfl
@[simp] theorem State.convertReply_replies (tag : Byte) (b : ReplyBody) : (s.convertReply tag b).replies = { s.replies with
      queue := s.replies.queue ++ [⟨tag, b, none⟩], reservations := s.replies.reservations - 1 } := rfl
@[simp] theorem State.convertReply_limit (tag : Byte) (b : ReplyBody) : (s.convertReply tag b).limit = s.limit := rfl
@[simp] theorem State.convertReply_tallies (tag : Byte) (b : ReplyBody) : (s.convertReply tag b).tallies = s.tallies := rfl
@[simp] theorem State.convertReply_heldDraws (tag : Byte) (b : ReplyBody) : (s.convertReply tag b).heldDraws = s.heldDraws := rfl
@[simp] theorem State.convertReply_pending (tag : Byte) (b : ReplyBody) : (s.convertReply tag b).pending = s.pending := rfl

/-! ### offerFault -/

@[simp] theorem State.offerFault_powered (c : FaultCause) : (s.offerFault c).powered = s.powered := rfl
@[simp] theorem State.offerFault_loop (c : FaultCause) : (s.offerFault c).loop = s.loop := rfl
@[simp] theorem State.offerFault_windows (c : FaultCause) : (s.offerFault c).windows = s.windows := rfl
@[simp] theorem State.offerFault_journal (c : FaultCause) : (s.offerFault c).journal = s.journal := rfl
@[simp] theorem State.offerFault_groups (c : FaultCause) : (s.offerFault c).groups = s.groups := rfl
@[simp] theorem State.offerFault_executor (c : FaultCause) : (s.offerFault c).executor = s.executor := rfl
@[simp] theorem State.offerFault_lrstLow (c : FaultCause) : (s.offerFault c).lrstLow = s.lrstLow := rfl
@[simp] theorem State.offerFault_bus (c : FaultCause) : (s.offerFault c).bus = s.bus := rfl
@[simp] theorem State.offerFault_gate (c : FaultCause) : (s.offerFault c).gate = s.gate := rfl
@[simp] theorem State.offerFault_replies (c : FaultCause) : (s.offerFault c).replies = s.replies.offerFault c := rfl
@[simp] theorem State.offerFault_limit (c : FaultCause) : (s.offerFault c).limit = s.limit := rfl
@[simp] theorem State.offerFault_tallies (c : FaultCause) : (s.offerFault c).tallies = s.tallies := rfl
@[simp] theorem State.offerFault_heldDraws (c : FaultCause) : (s.offerFault c).heldDraws = s.heldDraws := rfl
@[simp] theorem State.offerFault_pending (c : FaultCause) : (s.offerFault c).pending = s.pending := rfl

/-! ### enter -/

@[simp] theorem State.enter_powered (x : Executor) : (s.enter x).powered = s.powered := rfl
@[simp] theorem State.enter_loop (x : Executor) : (s.enter x).loop = s.loop := rfl
@[simp] theorem State.enter_windows (x : Executor) : (s.enter x).windows = s.windows := rfl
@[simp] theorem State.enter_journal (x : Executor) : (s.enter x).journal = s.journal := rfl
@[simp] theorem State.enter_groups (x : Executor) : (s.enter x).groups = s.groups := rfl
@[simp] theorem State.enter_executor (x : Executor) : (s.enter x).executor = x := rfl
@[simp] theorem State.enter_lrstLow (x : Executor) : (s.enter x).lrstLow = s.lrstLow := rfl
@[simp] theorem State.enter_bus (x : Executor) : (s.enter x).bus = x.pins := rfl
@[simp] theorem State.enter_gate (x : Executor) : (s.enter x).gate = s.gate := rfl
@[simp] theorem State.enter_replies (x : Executor) : (s.enter x).replies = s.replies := rfl
@[simp] theorem State.enter_limit (x : Executor) : (s.enter x).limit = s.limit := rfl
@[simp] theorem State.enter_tallies (x : Executor) : (s.enter x).tallies = s.tallies := rfl
@[simp] theorem State.enter_heldDraws (x : Executor) : (s.enter x).heldDraws = s.heldDraws := rfl
@[simp] theorem State.enter_pending (x : Executor) : (s.enter x).pending = s.pending := rfl

/-! ### forward -/

@[simp] theorem State.forward_powered (p : Parcel) : (s.forward p).powered = s.powered := rfl
@[simp] theorem State.forward_loop (p : Parcel) : (s.forward p).loop = { s.loop with buffer := s.loop.buffer ++ [⟨p.run p.check, 0⟩] } := rfl
@[simp] theorem State.forward_windows (p : Parcel) : (s.forward p).windows = s.windows := rfl
@[simp] theorem State.forward_journal (p : Parcel) : (s.forward p).journal = s.journal := rfl
@[simp] theorem State.forward_groups (p : Parcel) : (s.forward p).groups = s.groups := rfl
@[simp] theorem State.forward_executor (p : Parcel) : (s.forward p).executor = s.executor := rfl
@[simp] theorem State.forward_lrstLow (p : Parcel) : (s.forward p).lrstLow = s.lrstLow := rfl
@[simp] theorem State.forward_bus (p : Parcel) : (s.forward p).bus = s.bus := rfl
@[simp] theorem State.forward_gate (p : Parcel) : (s.forward p).gate = s.gate := rfl
@[simp] theorem State.forward_replies (p : Parcel) : (s.forward p).replies = s.replies := rfl
@[simp] theorem State.forward_limit (p : Parcel) : (s.forward p).limit = s.limit := rfl
@[simp] theorem State.forward_tallies (p : Parcel) : (s.forward p).tallies = s.tallies := rfl
@[simp] theorem State.forward_heldDraws (p : Parcel) : (s.forward p).heldDraws = s.heldDraws := rfl
@[simp] theorem State.forward_pending (p : Parcel) : (s.forward p).pending = s.pending := rfl

/-! ### dispose -/

@[simp] theorem State.dispose_powered (d : Disposition) (p : Parcel) : (s.dispose d p).powered = s.powered := rfl
@[simp] theorem State.dispose_loop (d : Disposition) (p : Parcel) : (s.dispose d p).loop = { s.loop with
      buffer := s.loop.buffer ++ [⟨Parcel.run { p with mark := d.code } (Parcel.check { p with mark := d.code }), 0⟩] } := rfl
@[simp] theorem State.dispose_windows (d : Disposition) (p : Parcel) : (s.dispose d p).windows = s.windows := rfl
@[simp] theorem State.dispose_journal (d : Disposition) (p : Parcel) : (s.dispose d p).journal = s.journal := rfl
@[simp] theorem State.dispose_groups (d : Disposition) (p : Parcel) : (s.dispose d p).groups = s.groups := rfl
@[simp] theorem State.dispose_executor (d : Disposition) (p : Parcel) : (s.dispose d p).executor = s.executor := rfl
@[simp] theorem State.dispose_lrstLow (d : Disposition) (p : Parcel) : (s.dispose d p).lrstLow = s.lrstLow := rfl
@[simp] theorem State.dispose_bus (d : Disposition) (p : Parcel) : (s.dispose d p).bus = s.bus := rfl
@[simp] theorem State.dispose_gate (d : Disposition) (p : Parcel) : (s.dispose d p).gate = s.gate := rfl
@[simp] theorem State.dispose_replies (d : Disposition) (p : Parcel) : (s.dispose d p).replies = s.replies := rfl
@[simp] theorem State.dispose_limit (d : Disposition) (p : Parcel) : (s.dispose d p).limit = s.limit := rfl
@[simp] theorem State.dispose_tallies (d : Disposition) (p : Parcel) : (s.dispose d p).tallies = s.tallies.disposed d := rfl
@[simp] theorem State.dispose_heldDraws (d : Disposition) (p : Parcel) : (s.dispose d p).heldDraws = s.heldDraws := rfl
@[simp] theorem State.dispose_pending (d : Disposition) (p : Parcel) : (s.dispose d p).pending = s.pending := rfl

/-! ### group -/

/-- Record `g` after a record is set (R100). -/
theorem State.group_setGroup (g h : BitVec 3) (r : Group) :
    (s.setGroup g r).group h = if g = h then r else s.group h := by
  simp only [State.group, State.setGroup, Vector.getElem_set, BitVec.toNat_inj]

/-- An update that leaves the group table alone leaves every record alone. -/
theorem State.group_congr (t : State) (h : t.groups = s.groups) (g : BitVec 3) : t.group g = s.group g := by
  simp [State.group, h]

end Sys2Proof.Machine
end

