-- ==== Sys2Proof/Laws/LoopPort.lean ====
section
/-! SUPPORT. What byte times and a run's arrival can do at the loop port. -/

namespace Sys2Proof.Machine

@[simp] theorem LoopPort.quiet_loopState (l : LoopPort) : l.quiet.loopState = l.loopState := rfl
@[simp] theorem LoopPort.quiet_discarding (l : LoopPort) : l.quiet.discarding = l.discarding := rfl
@[simp] theorem LoopPort.present_loopState (l : LoopPort) (b : Byte) (r : List Byte) (w : List Queued) :
    (l.present b r w).loopState = l.loopState := rfl
@[simp] theorem LoopPort.present_discarding (l : LoopPort) (b : Byte) (r : List Byte) (w : List Queued) :
    (l.present b r w).discarding = l.discarding := rfl

@[simp] theorem LoopPort.quiet_lco (l : LoopPort) : l.quiet.lco = l.lco := rfl
@[simp] theorem LoopPort.present_lco (l : LoopPort) (b : Byte) (r : List Byte) (w : List Queued) :
    (l.present b r w).lco = l.lco := rfl

/-- A byte time is quiet, goes on with the run being sent, or begins the oldest waiting run (R3). -/
theorem LoopPort.byteTime_cases (l : LoopPort) :
    l.byteTime = l.quiet
    ∨ (∃ b rest, l.sending = b :: rest ∧ l.byteTime = l.present b rest l.buffer)
    ∨ (∃ b rest waited waiting, l.sending = [] ∧ l.buffer = ⟨b :: rest, waited⟩ :: waiting ∧ 2 ≤ l.idle ∧ 2 ≤ waited
        ∧ l.byteTime = l.present b rest waiting) := by
  unfold LoopPort.byteTime
  split
  · next waiting b rest hs => exact .inr (.inl ⟨b, rest, hs, rfl⟩)
  · next b rest waited waiting hs hb =>
    split
    · next h => exact .inr (.inr ⟨b, rest, waited, waiting, hs, hb, h.1, h.2, rfl⟩)
    · exact .inl rfl
  · exact .inl rfl

@[simp] theorem LoopPort.byteTime_loopState (l : LoopPort) : l.byteTime.loopState = l.loopState := by
  rcases l.byteTime_cases with h | ⟨_, _, _, h⟩ | ⟨_, _, _, _, _, _, _, _, h⟩ <;> rw [h] <;> rfl

@[simp] theorem LoopPort.byteTime_discarding (l : LoopPort) : l.byteTime.discarding = l.discarding := by
  rcases l.byteTime_cases with h | ⟨_, _, _, h⟩ | ⟨_, _, _, _, _, _, _, _, h⟩ <;> rw [h] <;> rfl

@[simp] theorem LoopPort.byteTime_lco (l : LoopPort) : l.byteTime.lco = l.lco := by
  rcases l.byteTime_cases with h | ⟨_, _, _, h⟩ | ⟨_, _, _, _, _, _, _, _, h⟩ <;> rw [h] <;> rfl

@[simp] theorem LoopPort.byteTimes_loopState (n : Nat) (l : LoopPort) : (l.byteTimes n).loopState = l.loopState := by
  induction n generalizing l with
  | zero => rfl
  | succ n ih => simp [LoopPort.byteTimes, ih]

@[simp] theorem LoopPort.byteTimes_discarding (n : Nat) (l : LoopPort) :
    (l.byteTimes n).discarding = l.discarding := by
  induction n generalizing l with
  | zero => rfl
  | succ n ih => simp [LoopPort.byteTimes, ih]

@[simp] theorem LoopPort.byteTimes_lco (n : Nat) (l : LoopPort) : (l.byteTimes n).lco = l.lco := by
  induction n generalizing l with
  | zero => rfl
  | succ n ih => simp [LoopPort.byteTimes, ih]

/-- What loop-in does before a run is judged: nothing in power-on reset, discard, drop, or judge (R4, R34). -/
theorem listen_cases (gap len : Nat) (judge : State → State) (s : State) :
    (s.powered = false ∧ listen gap len judge s = s)
    ∨ (s.powered = true ∧ s.loop.discarding = true ∧ listen gap len judge s = s.pass len)
    ∨ (s.powered = true ∧ s.loop.discarding = false ∧ (s.pass (max gap 1)).loop.free < 266
        ∧ listen gap len judge s = (s.pass (max gap 1 + len)).raiseFraming.discardRun)
    ∨ (s.hears gap = true ∧ listen gap len judge s = judge (s.pass (max gap 1 + len))) := by
  cases hp : s.powered with
  | false => exact .inl ⟨rfl, by simp [listen, hp]⟩
  | true =>
    cases hd : s.loop.discarding with
    | true => exact .inr (.inl ⟨rfl, rfl, by simp [listen, hp, hd]⟩)
    | false =>
      by_cases hf : (s.pass (max gap 1)).loop.free < 266
      · exact .inr (.inr (.inl ⟨rfl, rfl, hf, by
          simp only [listen, hp, hd, Config.maxRun, if_true, Bool.true_eq_false, Bool.false_eq_true, if_false, hf]⟩))
      · exact .inr (.inr (.inr ⟨by simp only [State.hears, hp, hd, Nat.not_lt.mp hf, decide_true]; rfl,
          by
            simp only [listen, hp, hd, Config.maxRun, Bool.true_eq_false, Bool.false_eq_true, if_false, hf]⟩))

/-- A run that loop-in receives is judged in the byte time of its last byte (R3). -/
theorem listen_hears {gap len : Nat} {judge : State → State} {s : State} (h : s.hears gap = true) :
    listen gap len judge s = judge (s.pass (max gap 1 + len)) := by
  simp only [State.hears, Bool.and_eq_true, Bool.not_eq_true', decide_eq_true_eq] at h
  obtain ⟨⟨hp, hd⟩, hf⟩ := h
  simp only [listen, hp, hd, Config.maxRun, Bool.true_eq_false, Bool.false_eq_true, if_false, Nat.not_lt.mpr hf]

end Sys2Proof.Machine
end

