-- ==== Sys2Proof/Laws/Arrival.lean ====
section
/-! SUPPORT. The length of a parcel's run, and what the arrival of a parcel that loop-in receives comes to. -/

namespace Sys2Proof

@[simp] theorem wordBytes_length (w : Word) : (wordBytes w).length = 4 := rfl
@[simp] theorem halfBytes_length (h : Half) : (halfBytes h).length = 2 := rfl
@[simp] theorem Parcel.header_length (p : Parcel) : p.header.length = 9 := rfl

/-- A parcel is 11 + LENGTH bytes long (R8). -/
@[simp] theorem Parcel.run_length (p : Parcel) (c : Half) : (p.run c).length = 11 + p.payload.length := by
  simp [Parcel.run, Parcel.body]
  omega

end Sys2Proof

namespace Sys2Proof.Machine

@[simp] theorem State.heard_loopState (s : State) (gap : Nat) (p : Parcel) :
    (s.heard gap p).loop.loopState = s.loop.loopState := by simp [State.heard]

/-- Byte times touch the loop port alone. -/
theorem State.heard_eq (s : State) (gap : Nat) (p : Parcel) :
    s.heard gap p = { s with loop := s.loop.byteTimes (max gap 1 + (11 + p.payload.length)) } := rfl

/-- A parcel that loop-in receives is judged in the byte time of its last byte (R3). -/
theorem State.arriveParcel_heard {s : State} {gap : Nat} {p : Parcel} {c : Half}
    (h : s.hears gap = true) (hl : p.payload.length ≤ 255) :
    s.arriveParcel gap p c = (s.heard gap p).receive p c := by
  have : ¬ Config.maxRun < (p.run c).length := by simp; omega
  rw [State.arriveParcel, arriveRun, if_neg this, listen_hears h, Parcel.run_length]
  rfl

/-- A good parcel that loop-in receives is Intake's (R7). -/
theorem State.arrive_heard {s : State} {gap : Nat} {p : Parcel}
    (h : s.hears gap = true) (hl : p.payload.length ≤ 255) (hd : p.damaged = false) :
    s.arrive gap p = (s.heard gap p).intake p := by
  simp [State.arrive, State.arriveParcel_heard h hl, State.receive, hd]

/-- A parcel command is the arrival of the parcel it spells. -/
theorem exec_arrival {c : Instr} {gap : Nat} {p : Parcel} (h : c.arrival = some (gap, p)) (s : State) :
    exec c s = .next (s.arrive gap p) := by
  cases c <;> simp only [Instr.arrival, Option.some.injEq, Prod.mk.injEq, reduceCtorEq] at h <;>
    obtain ⟨rfl, rfl⟩ := h <;> rfl

/-- Every command at loop-in is the arrival of the run it brings; `judge` is what its last byte's happening does (R3, R4). -/
theorem exec_brings {c : Instr} {gap : Nat} {run : List Byte} (h : c.brings = some (gap, run)) (hr : run ≠ []) (s : State) :
    ∃ judge : State → State, exec c s = .next (arriveRun gap run judge s) := by
  have bytes : s.arriveBytes gap run = arriveRun gap run (fun u => u.judgeRun run) s := by
    cases run with
    | nil => exact absurd rfl hr
    | cons _ _ => rfl
  have parcel : ∀ p q, c.arrival = some (gap, p) → q = p.check → run = p.run q →
      ∃ judge : State → State, exec c s = .next (arriveRun gap run judge s) := by
    rintro p q ha rfl rfl
    exact ⟨_, exec_arrival ha s⟩
  unfold Instr.brings at h
  split at h
  · obtain ⟨rfl, rfl⟩ := Prod.mk.inj (Option.some.inj h)
    exact ⟨_, congrArg _ bytes⟩
  · obtain ⟨rfl, rfl⟩ := Prod.mk.inj (Option.some.inj h)
    exact ⟨_, congrArg _ bytes⟩
  · next p check =>
    obtain ⟨rfl, rfl⟩ := Prod.mk.inj (Option.some.inj h)
    exact ⟨fun t => t.receive p check, rfl⟩
  · next p =>
    obtain ⟨rfl, rfl⟩ := Prod.mk.inj (Option.some.inj h)
    exact ⟨fun t => t.receive { p with damaged := true } { p with damaged := true }.check, rfl⟩
  · obtain ⟨⟨_, p⟩, ha, hp⟩ := Option.map_eq_some_iff.mp h
    obtain ⟨rfl, rfl⟩ := Prod.mk.inj hp
    exact parcel p _ ha rfl rfl

end Sys2Proof.Machine
end

