-- ==== Sys2Proof/Laws/Executor.lean ====
section
/-! SUPPORT. What an issue, an edge and the end of an operation can do. -/

namespace Sys2Proof.Machine

/-- An issue leaves the node as it is, or issues the oldest ready entry from IDLE (R82, R83). -/
theorem State.takeIssue_cases (s : State) :
    s.takeIssue = s
    ∨ (∃ k e, s.powered = true ∧ s.executor = .idle ∧ s.gate.permits = true ∧ oldestReady s.journal = some k
        ∧ s.journal[k]? = some e ∧ s.takeIssue = s.issueAt k e) := by
  unfold State.takeIssue
  split
  · next h =>
    simp only [Bool.and_eq_true, beq_iff_eq] at h
    split
    · exact .inl rfl
    · next k hk =>
      split
      · exact .inl rfl
      · next e he => exact .inr ⟨k, e, h.1.1, h.1.2, h.2, hk, he, rfl⟩
  · exact .inl rfl

/-- The oldest ready entry is WAITING and not blocked, and no older entry is both (R82). -/
theorem oldestReady_some {j : List Entry} {k : Nat} (h : oldestReady j = some k) :
    k < j.length ∧ readyAt j k = true ∧ ∀ i < k, readyAt j i = false := by
  have := List.find?_range_eq_some.mp h
  obtain ⟨h1, h2, h3⟩ := this
  exact ⟨by simpa using h2, h1, fun i hi => by simpa using h3 i hi⟩

/-- An edge does nothing, or it is an edge in REQUESTING or in TRANSFERRING (R125). -/
theorem State.edge_cases (s : State) (lgnt lerr lwait : Bool) (ld : BitVec 64) :
    s.edge lgnt lerr lwait ld = s
    ∨ (∃ op, s.powered = true ∧ s.executor = .requesting op ∧ s.edge lgnt lerr lwait ld = s.requestEdge op lgnt)
    ∨ (∃ op, s.powered = true ∧ s.executor = .transferring op
        ∧ s.edge lgnt lerr lwait ld = s.beatEdge op lgnt lerr lwait ld) := by
  unfold State.edge
  split
  · next hp =>
    split
    · exact .inl rfl
    · exact .inl rfl
    · next op he => exact .inr (.inl ⟨op, hp, he, rfl⟩)
    · next op he => exact .inr (.inr ⟨op, hp, he, rfl⟩)
  · exact .inl rfl

/-- The end of an operation: the first ISSUED entry leaves the journal and is accounted for from IDLE (R87, R131). -/
theorem State.finish_of_split {s : State} {older younger : List Entry} {e : Entry} (op : Operation) (o : Ending)
    (hj : s.journal = older ++ e :: younger) (ho : ∀ x ∈ older, x.isIssued = false) (he : e.isIssued = true) :
    s.finish op o = ({ s with journal := older ++ younger }.enter .idle).account e op o := by
  have hf : s.journal.find? Entry.isIssued = some e := by
    rw [hj, List.find?_append, List.find?_eq_none.mpr (by simpa using ho)]
    simp [he]
  have hx : s.journal.eraseP Entry.isIssued = older ++ younger := by
    rw [hj]
    clear hj hf
    induction older with
    | nil => simp [he]
    | cons x xs ih =>
      have hx : x.isIssued = false := ho x (by simp)
      simp [hx, ih (fun y hy => ho y (by simp [hy]))]
  simp [State.finish, hf, hx]

/-- The end of an operation with no ISSUED entry leaves the executor IDLE. -/
theorem State.finish_of_none {s : State} (op : Operation) (o : Ending)
    (h : s.journal.find? Entry.isIssued = none) : s.finish op o = s.enter .idle := by
  simp [State.finish, h]

/-- A new fault record joins the list, or is counted lost (R165). -/
theorem ReplyUnit.offerFault_cases (r : ReplyUnit) (c : FaultCause) :
    (r.faults.length < 4 ∧ r.offerFault c = { r with faults := r.faults ++ [⟨c, r.lostFaults, none⟩], lostFaults := 0 })
    ∨ (4 ≤ r.faults.length ∧ r.offerFault c = { r with lostFaults := min (r.lostFaults + 1) 255 }) := by
  unfold ReplyUnit.offerFault
  split
  · next h => exact .inl ⟨by simpa using h, rfl⟩
  · next h => exact .inr ⟨by simpa using h, rfl⟩

@[simp] theorem ReplyUnit.offerFault_queue (r : ReplyUnit) (c : FaultCause) : (r.offerFault c).queue = r.queue := by
  rcases r.offerFault_cases c with ⟨_, h⟩ | ⟨_, h⟩ <;> rw [h]

@[simp] theorem ReplyUnit.offerFault_reservations (r : ReplyUnit) (c : FaultCause) :
    (r.offerFault c).reservations = r.reservations := by
  rcases r.offerFault_cases c with ⟨_, h⟩ | ⟨_, h⟩ <;> rw [h]

@[simp] theorem ReplyUnit.offerFault_attention (r : ReplyUnit) (c : FaultCause) :
    (r.offerFault c).attention = r.attention := by
  rcases r.offerFault_cases c with ⟨_, h⟩ | ⟨_, h⟩ <;> rw [h]

end Sys2Proof.Machine
end

