-- ==== Sys2Proof/Laws/Intake.lean ====
section
/-! SUPPORT. What Intake can do with a good parcel. -/

namespace Sys2Proof.Machine

/-- A parcel that is not the node's own is forwarded untouched (R38). -/
theorem State.intake_foreign {s : State} {p : Parcel} (h : s.owns p = false) : s.intake p = s.forward p := by
  simp [State.intake, h]

/-- A refused unicast gets its code and tally; a broadcast that is not taken is forwarded untouched (R39). -/
theorem State.intake_refused {s : State} {p : Parcel} (ho : s.owns p = true) (hj : s.judge p ≠ .taken) :
    s.intake p = if p.broadcast then s.forward p else s.dispose (s.judge p) p := by
  unfold State.intake
  cases h : s.judge p <;> simp_all

/-- A taken parcel hands on its work and is answered; a NUMBER with v of 31 or more makes the node UNNUMBERED (R27). -/
theorem State.intake_taken {s : State} {p : Parcel} (ho : s.owns p = true) (hj : s.judge p = .taken) :
    s.intake p =
      if p.work.unnumbers then { s with loop := { s.loop with loopState := .unnumbered } }.forward p
      else if p.broadcast then (s.handOn p.tag p.work).forward { s.rewritten p with mark := p.mark + 1 }
      else (s.handOn p.tag p.work).dispose .taken p := by
  simp [State.intake, ho, hj]

/-- TAKEN means that every check passed (R39). -/
theorem State.judge_taken {s : State} {p : Parcel} :
    s.judge p = .taken ↔
      p.formOk = true ∧ (p.work.needsLocal && s.localHeld) = false ∧ s.windowFails p.work = false
        ∧ s.rightsFail p.work = false ∧ s.groupFails p.work = false ∧ s.spaceFails p.work = false
        ∧ s.contentsFail p.work = false := by
  unfold State.judge
  split <;> [simp_all; split] <;> [simp_all; split] <;> [simp_all; split] <;> [simp_all; split] <;> [simp_all; split]
    <;> [simp_all; split] <;> simp_all

end Sys2Proof.Machine
end

