-- ==== Sys2Proof/Tests/Slice0.lean ====
section
/-! SUPPORT. The model's own tests: a smoke test of every check of WellFormed, results taken from the manual's worked examples
(each named by its chapter) or worked out by hand from a rule, and one witness for the hypotheses of each obligation. -/

open Sys2Proof Sys2Proof.Machine

namespace Sys2Proof.Tests

set_option Elab.async false

/-! ### Small states and operands -/

/-- The state a command leaves, or the state given where it leaves none. -/
def after (c : Instr) (s : State) : State :=
  match exec c s with
  | .next t => t
  | _ => s

/-- A window on 00100000h to 00100FFFh at local 40000000h with every right. -/
def window : WindowEntry := ⟨true, 0x1000#24, 0x10#24, 0x8000000#29, true, true, true⟩

/-- Node 5, NUMBERED, with one window in entry 0 of its active bank. -/
def node : State :=
  { State.reset with
    loop := { LoopPort.atReset with loopState := .numbered 5#5 }
    windows := { WindowTable.atReset with bankA := WindowTable.atReset.bankA.set 0 window } }

/-- A unicast envelope for node 5 with TAG 3Ah and group 1. -/
def mine : Envelope := ⟨2, 5#5, 1#3, 0x3A#8, 0#8⟩

/-- A broadcast envelope. -/
def everyone : Envelope := ⟨2, 31#5, 1#3, 0x51#8, 0#8⟩

/-- A window address. -/
def inside : Word := 0x00100040#32

def entry (kind : EntryKind) (tag : Byte) (address : Word) (state : EntryState) : Entry :=
  ⟨kind, tag, address, 8, if kind = .read then [] else List.replicate 8 7#8, state⟩

def operation (kind : EntryKind) (address : Word) (length beat wait : Nat) : Operation :=
  ⟨kind, 0x5A#8, address, length, if kind = .read then [] else List.replicate length 7#8, beat, wait, []⟩

/-- The node with its local side held in reset. -/
def heldNode : State := { node with executor := .reset, lrstLow := true }

/-- The node with group 1 in the state given, holding one entry. -/
def groupNode (g : GroupState) (e : EntryState) : State :=
  { node with
    journal := [entry (.staged 1#3) 0x11#8 0x40000000#32 e]
    groups := node.groups.set 1 ⟨g, 1, if g = .committing then some 0x60#8 else none, 0, 0, 0, none⟩
    replies := { node.replies with reservations := if g = .committing then 1 else 0 } }

/-- The node with a full reply queue. -/
def fullNode : State :=
  { node with replies := { node.replies with queue := List.replicate 16 ⟨0#8, .discardDone 0, none⟩ } }

/-- The node with an operation in REQUESTING or TRANSFERRING and its entry ISSUED. -/
def busy (x : Operation → Executor) (op : Operation) : State :=
  { node with
    journal := [⟨op.kind, op.tag, op.address, op.length, op.data, .issued⟩]
    executor := x op
    bus := (x op).pins
    replies := { node.replies with reservations := if op.kind = .read then 1 else 0 } }

/-- A good parcel from an envelope, of a kind no node takes. -/
def strange : Parcel := mine.parcel 12#4 false 0#32 []

/-! ### Smoke test of WellFormed: an ill-formed term for each check -/

theorem test_wf_gap : wellFormed (.runDropped 0) = false := by decide +kernel
theorem test_wf_overlong_gap : wellFormed (.overlongRun 0 (List.replicate 267 0#8)) = false := by decide +kernel
theorem test_wf_overlong_length : wellFormed (.overlongRun 1 [0#8]) = false := by decide +kernel
theorem test_wf_framing_gap : wellFormed (.framingFault 0 [0#8]) = false := by decide +kernel
theorem test_wf_framing_empty : wellFormed (.framingFault 1 []) = false := by decide +kernel
theorem test_wf_framing_right : wellFormed (.framingFault 1 (List.replicate 11 0#8)) = false := by decide +kernel
theorem test_wf_damaged_gap : wellFormed (.damaged 0 strange 0#16) = false := by decide +kernel
theorem test_wf_damaged_payload :
    wellFormed (.damaged 1 { strange with payload := List.replicate 256 0#8 } 0#16) = false := by decide +kernel
theorem test_wf_not_own_damaged : wellFormed (.notOwnParcel 1 { strange with damaged := true }) = false := by decide +kernel
theorem test_wf_malformed_damaged : wellFormed (.malformedParcel 1 { strange with damaged := true }) = false := by decide +kernel
theorem test_wf_malformed_dest : wellFormed (.malformedParcel 1 { strange with dest := 31#5 }) = false := by decide +kernel
theorem test_wf_malformed_mark : wellFormed (.malformedParcel 1 { strange with mark := 1#8 }) = false := by decide +kernel
theorem test_wf_unicast : wellFormed (.memoryRead everyone 0#32 1#8) = false := by decide +kernel
theorem test_wf_write_empty : wellFormed (.memoryWrite mine 0#32 []) = false := by decide +kernel
theorem test_wf_write_long : wellFormed (.memoryWrite mine 0#32 (List.replicate 65 0#8)) = false := by decide +kernel
theorem test_wf_stage_empty : wellFormed (.stage mine 0#32 []) = false := by decide +kernel
theorem test_wf_stage_long : wellFormed (.stage mine 0#32 (List.replicate 65 0#8)) = false := by decide +kernel
theorem test_wf_commit_dest : wellFormed (.commit { mine with dest := 0#5 } 0#32) = false := by decide +kernel
theorem test_wf_sweep_dest : wellFormed (.sweep mine 0#32 (List.replicate 36 0#8)) = false := by decide +kernel
theorem test_wf_sweep_length : wellFormed (.sweep everyone 0#32 (List.replicate 37 0#8)) = false := by decide +kernel
theorem test_wf_sweep_short : wellFormed (.sweep everyone 0#32 []) = false := by decide +kernel
theorem test_wf_sweep_long : wellFormed (.sweep everyone 0#32 (List.replicate 180 0#8)) = false := by decide +kernel
theorem test_wf_control_write_length : wellFormed (.controlWrite mine 8#32 [0#8, 0#8, 0#8, 0#8, 0#8]) = false := by decide +kernel
theorem test_wf_control_write_empty : wellFormed (.controlWrite mine 8#32 []) = false := by decide +kernel
theorem test_wf_control_write_long : wellFormed (.controlWrite mine 8#32 (List.replicate 68 0#8)) = false := by decide +kernel
theorem test_wf_standby_empty : wellFormed (.standbyBankWrite mine 0#6 []) = false := by decide +kernel
theorem test_wf_standby_long : wellFormed (.standbyBankWrite mine 0#6 (List.replicate 17 0#32)) = false := by decide +kernel
theorem test_wf_standby_end : wellFormed (.standbyBankWrite mine 63#6 [0#32, 0#32]) = false := by decide +kernel
theorem test_wf_accepts : wellFormed (.memoryRead mine inside 8#8) = true := by decide +kernel

/-! ### Bytes and check word (chapter 1) -/

/-- R8's layout written out byte by byte: DEST 5, GROUP 1; READ, MEMORY; TAG 3Ah; MARK 0; LENGTH 1; ADDRESS 00012340h; 8. -/
theorem test_parcel_bytes : (mine.parcel 1#4 false 0x00012340#32 [8#8]).body =
    [0x29#8, 0x10#8, 0x3A#8, 0x00#8, 0x01#8, 0x00#8, 0x01#8, 0x23#8, 0x40#8, 0x08#8] := by decide +kernel

/-- R6's recipe on the bytes of "123456789": AEE7h is the published check value of this CRC (8005h, preset FFFFh, not reflected,
not inverted), from outside the manual. -/
theorem test_crc_check_value :
    crc [0x31#8, 0x32#8, 0x33#8, 0x34#8, 0x35#8, 0x36#8, 0x37#8, 0x38#8, 0x39#8] = 0xAEE7#16 := by decide +kernel

/-- Chapter 1, "forwarding two parcels": A (20 bytes) is first sent 3 byte times after its last byte, B 3 after A's last. -/
theorem test_forwarding_two_parcels :
    let l := { LoopPort.atReset with buffer := [⟨List.replicate 20 0xAA#8, 0⟩] }
    (l.byteTimes 2).lfo = false ∧ (l.byteTimes 3).ldo = 0xAA#8
      ∧ ({ l.byteTimes 14 with buffer := [⟨List.replicate 12 0xBB#8, 0⟩] } |>.byteTimes 10).lfo = false
      ∧ ({ l.byteTimes 14 with buffer := [⟨List.replicate 12 0xBB#8, 0⟩] } |>.byteTimes 11).ldo = 0xBB#8 := by decide +kernel

/-- Chapter 1, "a parcel damaged in transit": a changed LENGTH byte makes a framing fault. -/
theorem test_framing_fault : framed ((mine.parcel 2#4 false inside [1#8, 2#8, 3#8, 4#8]).run 0#16) = true
    ∧ framed (((mine.parcel 2#4 false inside [1#8, 2#8, 3#8, 4#8]).run 0#16).set 4 6#8) = false := by decide +kernel

/-! ### Numbering (chapter 2) -/

/-- Chapter 2, "enumerating a four-node loop", step 2 at P1. -/
theorem test_number : (after (.number everyone 1#32) State.reset).loop.loopState = .numbered 1#5 := by decide +kernel
/-- Table 2-1. -/
theorem test_number_31 : (after (.number everyone 31#32) node).loop.loopState = .unnumbered := by decide +kernel
/-- R32, R33. -/
theorem test_loop_reset : (after (.loopReset everyone 0#32) node).windows = WindowTable.atReset
    ∧ (after (.loopReset everyone 0#32) node).loop.buffer.length = 1 := by decide +kernel
/-- R34: a part that starts with LRST# low starts held. -/
theorem test_power_on_held : (after (.powerOn false false) node).executor = .reset := by decide +kernel
/-- R4: a run already arriving when power-on completes is discarded. -/
theorem test_power_on_mid_run : (after (.powerOn true true) node).loop.discarding = true := by decide +kernel
/-- R34: LREQ and LCO are low. -/
theorem test_supply : (after .supplyBelowRange node).bus.lreq = false ∧ (after .supplyBelowRange node).loop.lco = .low := by
  exact ⟨rfl, rfl⟩

/-! ### Intake (chapters 1 and 3) -/

/-- A broadcast STEP of 0 credits: the node's own and not taken. -/
def emptyStep : Parcel := everyone.parcel 7#4 false 0#32 [0#8]

/-- Chapter 1, the unicast READ at position 2: MARK leaves as 1, TAKEN counts, a reservation is held. -/
theorem test_memory_read : (after (.memoryRead mine inside 8#8) node).replies.reservations = 1
    ∧ (after (.memoryRead mine inside 8#8) node).tallies.taken = 1 := by decide +kernel
/-- Chapter 3, parcel 1: READ 00100FF8h, 16 bytes, runs past the entry found: REFUSED-WINDOW. -/
theorem test_memory_read_window : node.judge (mine.parcel 1#4 false 0x00100FF8#32 [16#8]) = .refusedWindow := by decide +kernel
/-- Chapter 3, parcel 6: the local address is LOCAL BASE plus the offset. -/
theorem test_memory_write : (after (.memoryWrite mine 0x00100020#32 [1#8, 2#8, 3#8, 4#8]) node).journal =
    [⟨.posted, 0x3A#8, 0x40000020#32, 4, [1#8, 2#8, 3#8, 4#8], .waiting⟩] := by decide +kernel
/-- R52, R103. -/
theorem test_stage : ((after (.stage mine inside [1#8]) node).group 1#3).state = .opened
    ∧ (after (.stage mine inside [1#8]) node).journal.map (·.state) = [.parked] := by decide +kernel
/-- Chapter 3, parcel 3: STAGE of a COMMITTING group. -/
theorem test_stage_committing :
    (groupNode .committing .waiting).judge (mine.parcel 3#4 false inside [1#8]) = .refusedGroup := by decide +kernel
/-- Chapter 1, the broadcast COMMIT at position 1. -/
theorem test_commit_open : ((after (.commit everyone 0#32) (groupNode .opened .parked)).group 1#3).commitTag = some 0x51#8
    ∧ (after (.commit everyone 0#32) (groupNode .opened .parked)).journal.map (·.state) = [.waiting] := by decide +kernel
/-- Chapter 1, the broadcast COMMIT at position 3. -/
theorem test_commit_empty : (after (.commit everyone 0#32) node).replies.queue =
    [⟨0x51#8, .commitDone .ok 0 0 0 none, none⟩] := by decide +kernel
/-- R108. -/
theorem test_discard_open : (after (.discard mine 0#32) (groupNode .opened .parked)).replies.queue =
    [⟨0x3A#8, .discardDone 1, none⟩] ∧ (after (.discard mine 0#32) (groupNode .opened .parked)).journal = [] := by decide +kernel
/-- R109. -/
theorem test_discard_empty : (after (.discard mine 0#32) node).replies.queue = [⟨0x3A#8, .discardDone 0, none⟩] := by decide +kernel
/-- R142: credits saturate at 15. -/
theorem test_step_saturates :
    (after (.step mine 0#32 5#8) { node with gate := ⟨.held, 12⟩ }).gate = ⟨.held, 15⟩ := by decide +kernel
/-- R142: an OPEN gate takes no credits. -/
theorem test_step_open : (after (.step mine 0#32 5#8) node).gate = ⟨.opened, 0⟩ := by decide +kernel
/-- R36, R40: KIND 12 at its own node is REFUSED-FORM, code 6. -/
theorem test_malformed : (after (.malformedParcel 2 strange) node).tallies.form = 1 := by decide +kernel
/-- R40, Table 1-1: DEST 0 is in no kind's DEST class. -/
theorem test_header_dest_0 : { emptyStep with dest := 0#5 }.headerOk = false ∧ emptyStep.headerOk = true := by decide +kernel
/-- R38: the same parcel for another node leaves the tallies alone. -/
theorem test_not_own : (after (.notOwnParcel 2 { strange with dest := 6#5 }) node).tallies = Tallies.zero := by decide +kernel
/-- R7. -/
theorem test_damaged : (after (.damaged 2 strange 0#16) node).tallies.damaged = 1 := by decide +kernel
/-- R7. -/
theorem test_damaged_set : (after (.damagedSetOnArrival 2 strange) node).tallies = Tallies.zero := by decide +kernel
/-- R4: room for 266 bytes is enough, one byte less is not. -/
theorem test_run_dropped :
    (after (.runDropped 1) { node with loop := { node.loop with buffer := [⟨List.replicate 759 0#8, 0⟩] } }).tallies.framing = 1
    ∧ (after (.runDropped 1) { node with loop := { node.loop with buffer := [⟨List.replicate 758 0#8, 0⟩] } }).tallies.framing = 0 := by
  decide +kernel
/-- R4: an overlong run is cut at its 266th byte. -/
theorem test_overlong :
    (after (.overlongRun 2 (List.replicate 267 9#8)) node).loop.buffer.map (·.bytes.length) = [266] := by decide +kernel
/-- R4. -/
theorem test_lfi_falls : (after (.lfiFalls 3) { node with loop := { node.loop with discarding := true } }).loop.discarding = false := by
  decide +kernel
/-- R3: it starts no earlier than t + 3. -/
theorem test_parcel_send : (after .parcelSend { node with loop := { node.loop with buffer := [⟨[9#8, 8#8], 0⟩] } }).loop =
    { node.loop with sending := [8#8], idle := 0, lfo := true, ldo := 9#8 } := by decide +kernel

/-! ### Windows and control space (chapters 4 and 11) -/

/-- Chapter 4, "which entry a parcel finds": entry 0 shadows the start of entry 1. -/
def shadowed : WindowTable :=
  let first : WindowEntry := ⟨true, 0x4000#24, 1#24, 0x2000000#29, true, false, false⟩
  let second : WindowEntry := ⟨true, 0x4000#24, 0x10#24, 0x2000000#29, true, true, true⟩
  { WindowTable.atReset with bankA := (WindowTable.atReset.bankA.set 0 first).set 1 second }
theorem test_lookup_lowest : (shadowed.lookup 0x004000F8).map (·.size) = some 1#24
    ∧ (shadowed.lookup 0x00400100).map (fun e => e.translate 0x00400100) = some 0x10000100#32 := by decide +kernel
/-- R16, R67: word 0 of standby entry 1. -/
theorem test_standby_write :
    (bankEntry (after (.standbyBankWrite mine 4#6 [0x00080000#32]) node).windows.standbyBank 1).loopPage = 0x000800#24 := by decide +kernel
/-- R71. -/
theorem test_swap : (after (.swap mine) node).windows.active = .b ∧ (after (.swap mine) node).windows.swapCount = 1#16 := by decide +kernel
/-- The node with a standby entry whose loop range runs past 2^32. -/
def overrunNode : State :=
  let overrun : WindowEntry := ⟨true, 0xFFFFFF#24, 2#24, 0xE000000#29, true, true, false⟩
  { node with windows := { node.windows with bankB := node.windows.bankB.set 2 overrun } }
/-- Chapter 4: a standby entry whose loop range runs past 2^32 refuses the SWAP. -/
theorem test_swap_refused : (after (.swap mine) overrunNode).tallies.controlTally = 1 := by decide +kernel
/-- R69. -/
theorem test_copy : (after (.copy mine) node).windows.bankB = node.windows.bankA := by decide +kernel
/-- Chapter 11, "clearing and reading the tallies", parcel 1. -/
theorem test_clear_tallies :
    (after (.clearTallies mine) { node with tallies := { Tallies.zero with full := 9 } }).tallies.counts =
      [1, 0, 0, 0, 0, 0, 0, 0, 0, 0, 0] := by decide +kernel
/-- Chapter 11, "one parcel, three words": NODE STATUS then reads 85010000h. -/
theorem test_control_write_three_words :
    let t := after (.controlWrite mine 0x008#32 [0#8, 0#8, 0#8, 1#8, 0#8, 0#8, 0#8, 0x10#8, 0#8, 0#8, 0#8, 4#8]) node
    t.controlWord 0x004 = 0x85010000#32 ∧ t.limit = 16#8 := by decide +kernel
/-- Chapter 11: with the COMMAND word 00000005h nothing applies. -/
theorem test_control_write_refused :
    (after (.controlWrite mine 0x008#32 [0#8, 0#8, 0#8, 1#8, 0#8, 0#8, 0#8, 0x10#8, 0#8, 0#8, 0#8, 5#8]) node).limit = 64#8 := by decide +kernel
/-- R172. -/
theorem test_control_read : (after (.controlRead mine 0x000#32 4#8) node).replies.queue =
    [⟨0x3A#8, .controlData [0xC7#8, 0x22#8, 0x16#8, 0x01#8], none⟩] := by decide +kernel
/-- R141. -/
theorem test_gate_held : (after (.gate mine 1#32) node).gate = ⟨.held, 0⟩ := by decide +kernel
/-- Chapter 3, parcel 8: GATE with bit 1 set. -/
theorem test_gate_refused : node.judge (mine.writeWord 0x008#32 2#32) = .refusedControl := by decide +kernel
/-- R173. -/
theorem test_local_limit : (after (.localLimit mine 255#32) node).limit = 255#8 := by decide +kernel
/-- R135: the command ends IDLE with one LOCAL-RESET record. -/
theorem test_local_reset : (after (.localReset mine) node).executor = .idle
    ∧ (after (.localReset mine) node).replies.faults = [⟨.localReset 0, 0, none⟩] := by decide +kernel

/-! ### The executor (chapters 5 to 8) -/

/-- Chapter 7, "how operations are cut into beats": POSTED, 13 bytes at 40000005h. -/
theorem test_beats : beatCount 0x40000005 13 = 3 ∧ byteEnables 0x40000005 13 0x40000000 = 0xE0#8
    ∧ byteEnables 0x40000005 13 0x40000008 = 0xFF#8 ∧ byteEnables 0x40000005 13 0x40000010 = 0x03#8 := by decide +kernel
/-- Chapter 7, the same for STAGED, 64 bytes at 6000000Ch: 9 beats. -/
theorem test_nine_beats : beatCount 0x6000000C 64 = 9 ∧ byteEnables 0x6000000C 64 0x60000048 = 0x0F#8 := by decide +kernel
/-- R82: the oldest ready entry, not the oldest: the first is PARKED and blocks the second. -/
theorem test_issue : (after .issue { node with journal := [entry (.staged 1#3) 1#8 0x40000000#32 .parked,
    entry .read 2#8 0x40000004#32 .waiting, entry .posted 3#8 0x40000100#32 .waiting] }).journal.map (·.state) =
      [.parked, .waiting, .issued] := by decide +kernel
/-- R143. -/
theorem test_issue_uses_a_credit : (after .issue { node with gate := ⟨.held, 2⟩, journal :=
    [entry .posted 3#8 0x40000100#32 .waiting] }).gate = ⟨.held, 1⟩ := by decide +kernel
/-- Chapter 7, "one write, edge by edge", edge 3: 12 bytes at 70000004h, lanes 4 to 7. -/
theorem test_grant : (after (.grant true true 0#64) (busy .requesting (operation .posted 0x70000004#32 12 0 2))).bus =
    ⟨true, 0xE000000#29, 0xF0#8, false, some 0x0707070700000000#64⟩ := by decide +kernel
/-- The same, edge 2. -/
theorem test_grant_wait : (after .grantWaitEdge (busy .requesting (operation .posted 0x70000004#32 12 0 1))).executor =
    .requesting (operation .posted 0x70000004#32 12 0 2) := by decide +kernel
/-- The same, edge 4. -/
theorem test_beat_stretched : (after .beatStretched (busy .transferring (operation .posted 0x70000004#32 12 0 0))).executor =
    .transferring (operation .posted 0x70000004#32 12 0 1) := by decide +kernel
/-- The same, edge 5. -/
theorem test_beat_done : (after (.beatDone 0#64) (busy .transferring (operation .posted 0x70000004#32 12 0 1))).executor =
    .transferring (operation .posted 0x70000004#32 12 1 0) := by decide +kernel
/-- The same, edge 6. -/
theorem test_completion :
    (after (.completion 0#64) (busy .transferring (operation .posted 0x70000004#32 12 1 0))).journal = []
    ∧ (after (.completion 0#64) (busy .transferring (operation .posted 0x70000004#32 12 1 0))).executor = .idle := by decide +kernel
/-- R123, R88: lane 4 carries the byte at an address of 4 mod 8; a READ's data is in ascending local address order. -/
theorem test_read_lanes :
    (after (.completion 0x8877665544332211#64) (busy .transferring (operation .read 0x40000004#32 4 0 0))).replies.queue =
      [⟨0x5A#8, .readData [0x55#8, 0x66#8, 0x77#8, 0x88#8], none⟩] := by decide +kernel
/-- The same, LERR at edge 6: BUS-ERROR at beat 1, local address 70000008h. -/
theorem test_bus_error :
    (after (.busError true) (busy .transferring (operation .posted 0x70000004#32 12 1 0))).replies.faults =
      [⟨.postedWriteFailed .busError 0x5A#8 0x70000008#32 1, 0, none⟩] := by decide +kernel
/-- The same, LGNT lowered at edge 5: GRANT-LOST at beat 0. -/
theorem test_grant_lost :
    (after (.grantLost false false) (busy .transferring (operation .posted 0x70000004#32 12 0 1))).replies.faults =
      [⟨.postedWriteFailed .grantLost 0x5A#8 0x70000000#32 0, 0, none⟩] := by decide +kernel
/-- Chapter 7, "timeouts at the least limit": the 16th edge. -/
theorem test_grant_timeout :
    (after .grantTimeout { busy .requesting (operation .read 0x50000010#32 8 0 15) with limit := 1#8 }).replies.queue =
      [⟨0x5A#8, .readError .grantTimeout, none⟩] := by decide +kernel
/-- The same, edge 18. -/
theorem test_wait_timeout :
    (after .waitTimeout { busy .transferring (operation .read 0x50000010#32 8 0 15) with limit := 1#8 }).replies.queue =
      [⟨0x5A#8, .readError .waitTimeout, none⟩] := by decide +kernel
/-- Chapter 6, "a committing group cut short by local reset". -/
theorem test_lrst_fall :
    (after .lrstFall { node with
      journal := [entry (.staged 2#3) 0x43#8 0x40000000#32 .issued, entry (.staged 2#3) 0x44#8 0x40000100#32 .waiting]
      groups := node.groups.set 2 ⟨.committing, 2, some 0x72#8, 1, 1, 0, some (0x42#8, .waitTimeout)⟩
      replies := { node.replies with reservations := 1 } }).replies.queue =
      [⟨0x72#8, .commitDone .abandoned 1 1 2 (some (0x42#8, .waitTimeout)), none⟩] := by decide +kernel
/-- R133: a fall cannot follow a fall. -/
theorem test_lrst_fall_twice : exec .lrstFall heldNode = .fault .lrstAlreadyLow := by rfl
/-- R136. -/
theorem test_lrst_rise : (after .lrstRise heldNode).executor = .idle := by decide +kernel
/-- R136: a rise while IDLE cannot occur. -/
theorem test_lrst_rise_twice : exec .lrstRise node = .fault .lrstAlreadyHigh := by rfl

/-! ### Sweeps and attention (chapters 9 and 10) -/

/-- Chapter 10, "attention called twice", row 4: released by CONFIRM 90, placed again under 91. -/
theorem test_sweep_attention :
    (after (.sweep everyone 0x5B5A0000#32 (List.replicate 36 0#8))
      { node with replies := { node.replies with attention := .carried 90#8 true } }).replies.attention = .carried 91#8 false := by decide +kernel
/-- Chapter 9, "a lost sweep recovered by resend", sweep 40 at node 3: the fault first, then the oldest reply. -/
theorem test_sweep_priority :
    let r : ReplyUnit := { node.replies with
      queue := [⟨0x10#8, .readData [1#8], some 39#8⟩, ⟨0x60#8, .commitDone .ok 1 0 0 none, none⟩, ⟨0x11#8, .readData [2#8], none⟩]
      faults := [⟨.postedWriteFailed .busError 0x20#8 0x40000000#32 0, 0, none⟩] }
    let out := r.sweep 3#5 0x28270000#32 (List.replicate 72 0#8)
    out.2.1.queue.map (·.carrying) = [some 40#8, none] ∧ out.2.1.faults.map (·.carrying) = [some 40#8]
      ∧ out.2.2 = 2 ∧ out.1.take 4 = [0xE1#8, 0x18#8, 0x20#8, 8#8] := by decide +kernel
/-- Chapter 10, row 3. -/
theorem test_attn_rise :
    (after .attnRise { node with replies := { node.replies with attention := .carried 90#8 false } }).replies.attention =
      .carried 90#8 true := by decide +kernel
/-- R168. -/
theorem test_attn_rise_idle : (after .attnRise node).replies.attention = .pending := by decide +kernel

/-! ### Witnesses: for each obligation with hypotheses, states and operands that meet them, clause by clause -/

theorem witness_PowerOnAndSupplyFailure : node.powered = true := by rfl

theorem witness_PowerOnResetHoldsThePart :
    { node with powered := false }.powered = false ∧ ∀ a b, Instr.issue ≠ .powerOn a b := by
  exact ⟨rfl, fun _ _ => by simp⟩

/-- Waiting with loop-out idle, and behind a run being sent. -/
def waiting (sending : List Byte) : State :=
  { node with loop := { node.loop with buffer := [⟨[9#8, 8#8], 0⟩, ⟨[7#8], 0⟩], sending := sending } }
theorem witness_ParcelSendBeginsTheOldestRun :
    (waiting []).powered = true ∧ (waiting []).loop.buffer = ⟨9#8 :: [8#8], 0⟩ :: [⟨[7#8], 0⟩]
      ∧ 3 = max (2 - 0) (if (waiting []).loop.sending = [] then 2 - (waiting []).loop.idle else 0) + 1
      ∧ (waiting [1#8]).loop.buffer = ⟨9#8 :: [8#8], 0⟩ :: [⟨[7#8], 0⟩]
      ∧ 4 = max (2 - 0) (if (waiting [1#8]).loop.sending = [] then 0 else (waiting [1#8]).loop.sending.length + 2) + 1 := by
  decide

theorem witness_LoopOutKeepsOrderAndGaps :
    (waiting [1#8]).loop.sending ≠ [] ∧ (waiting []).loop.sending = [] ∧ (waiting []).loop.byteTime.lfo = false
      ∧ ({ node.loop with buffer := [⟨[9#8], 2⟩] }).sending = []
      ∧ ({ node.loop with buffer := [⟨[9#8], 2⟩] }).byteTime.lfo = true := by decide

/-- 759 bytes waiting leave 265 free, 758 leave 266. -/
def holding (n : Nat) : State := { node with loop := { node.loop with buffer := [⟨List.replicate n 0#8, 0⟩] } }
theorem witness_RunsThatAreNoParcel :
    ((holding 759).powered = true ∧ (holding 759).loop.discarding = false
        ∧ ((holding 759).loop.byteTimes (max 1 1)).free < 266)
      ∧ ((holding 758).hears 1 = true ∧ 266 < (List.replicate 267 0#8).length)
      ∧ ((holding 758).hears 1 = true ∧ 1 ≤ [0#8].length ∧ [0#8].length ≤ 266 ∧ framed [0#8] = false)
      ∧ ((List.replicate 266 0#8).length ≤ 266 ∧ framed (List.replicate 266 0#8) = false)
      ∧ (Instr.memoryWrite mine inside [1#8]).brings =
          some (mine.gap, (mine.parcel 2#4 false inside [1#8]).run (mine.parcel 2#4 false inside [1#8]).check)
      ∧ (Instr.overlongRun 1 (List.replicate 267 0#8)).brings = some (1, List.replicate 267 0#8)
      ∧ List.replicate 267 0#8 ≠ [] := by decide +kernel

def discardingNode : State := { node with loop := { node.loop with discarding := true } }
theorem witness_DiscardingLastsUntilLfiFalls :
    discardingNode.powered = true ∧ discardingNode.loop.discarding = true
      ∧ (Instr.notOwnParcel 2 strange).brings = some (2, strange.run strange.check) ∧ strange.run strange.check ≠ []
      ∧ (Instr.damaged 2 strange 0#16).brings = some (2, strange.run 0#16)
      ∧ (Instr.framingFault 1 [0#8]).brings = some (1, [0#8]) ∧ [0#8] ≠ [] := by decide +kernel

theorem witness_DamagedParcelsAreNeverTaken :
    node.hears 2 = true ∧ strange.payload.length ≤ 255 ∧ strange.check + 1#16 ≠ strange.check ∧ strange.damaged = false := by
  decide +kernel

theorem witness_ParcelBytesRoundTrip :
    strange.payload.length ≤ 255 ∧ readParcel (strange.run 0#16) = some (strange, 0#16) := by decide +kernel

theorem witness_CheckWordDetectsAWrongByte : (0#8 : Byte) ≠ 1#8 := by decide

theorem witness_WhoseParcelItIs :
    { strange with dest := 0#5 }.dest = 0#5 ∧ (strange.dest ≠ 0#5 ∧ strange.dest ≠ 31#5)
      ∧ { strange with dest := 31#5 }.dest = 31#5 := by decide

theorem witness_NotOwnParcelIsForwardedUntouched :
    (node.hears 2 = true ∧ { strange with mark := 1#8 }.payload.length ≤ 255 ∧ { strange with mark := 1#8 }.damaged = false
        ∧ node.owns { strange with mark := 1#8 } = false)
      ∧ (emptyStep.payload.length ≤ 255 ∧ emptyStep.damaged = false ∧ emptyStep.broadcast = true
        ∧ node.judge emptyStep ≠ .taken ∧ (Instr.step everyone 0#32 0#8).arrival = some (2, emptyStep)) := by decide +kernel

theorem witness_MalformedHeaderIsRefused :
    node.hears 2 = true ∧ strange.payload.length ≤ 255 ∧ strange.damaged = false
      ∧ node.loop.loopState = .numbered strange.dest ∧ strange.dest ≠ 0#5 ∧ strange.dest ≠ 31#5 ∧ strange.mark = 0#8
      ∧ strange.headerOk = false := by decide +kernel

theorem witness_FirstFailingCheckDecides :
    (Instr.gate mine 2#32).arrival = some (2, mine.writeWord 0x008#32 2#32) ∧ node.hears 2 = true
      ∧ (mine.writeWord 0x008#32 2#32).payload.length ≤ 255 ∧ (mine.writeWord 0x008#32 2#32).damaged = false
      ∧ node.owns (mine.writeWord 0x008#32 2#32) = true ∧ (mine.writeWord 0x008#32 2#32).broadcast = false := by decide +kernel

/-- The node with a window that has no right, and one byte past its end. -/
def closedNode : State :=
  { node with windows := { node.windows with bankA := node.windows.bankA.set 0 { window with r := false, w := false, s := false } } }
theorem witness_LocalWindowAndRightsRefusals :
    ((∃ k : Byte, Instr.memoryRead mine inside 32#8 = .memoryRead mine inside k ∧ 32 = k.toNat ∧ 32 ≤ 32
          ∧ WindowEntry.r = WindowEntry.r)
        ∧ (∃ data, Instr.memoryWrite mine inside [1#8] = .memoryWrite mine inside data ∧ 1 = data.length ∧ 1 ≤ 64
          ∧ WindowEntry.w = WindowEntry.w)
        ∧ (∃ data, Instr.stage mine inside [1#8] = .stage mine inside data ∧ 1 = data.length ∧ 1 ≤ 64
          ∧ WindowEntry.s = WindowEntry.s))
      ∧ (Instr.memoryRead mine inside 32#8).arrival = some (mine.gap, mine.parcel 1#4 false inside [32#8])
      ∧ (heldNode.hears mine.gap = true ∧ heldNode.addressed mine = true ∧ heldNode.executor = .reset)
      ∧ (node.hears mine.gap = true ∧ node.addressed mine = true ∧ node.executor ≠ .reset)
      ∧ node.windows.lookup 0 = none
      ∧ (node.windows.lookup 0x00100FFF = some window ∧ window.loopBase + window.bytes < 0x00100FFF + 2)
      ∧ (closedNode.hears mine.gap = true ∧ closedNode.addressed mine = true ∧ closedNode.executor ≠ .reset
        ∧ closedNode.windows.lookup inside.toNat = some { window with r := false, w := false, s := false }
        ∧ inside.toNat + 32 ≤ window.loopBase + window.bytes
        ∧ WindowEntry.r { window with r := false, w := false, s := false } = false) := by
  refine ⟨⟨⟨32#8, rfl, by decide, by decide, rfl⟩, ⟨[1#8], rfl, by decide, by decide, rfl⟩, ⟨[1#8], rfl, by decide, by decide, rfl⟩⟩, ?_⟩
  decide +kernel

def fullJournalNode : State := { node with journal := List.replicate 32 (entry .posted 0#8 0x40000000#32 .waiting) }
theorem witness_GroupAndSpaceRefusals :
    ((groupNode .committing .waiting).hears mine.gap = true ∧ (groupNode .committing .waiting).addressed mine = true
        ∧ ((groupNode .committing .waiting).group mine.group).state = .committing
        ∧ (groupNode .committing .waiting).executor ≠ .reset)
      ∧ (fullNode.hears mine.gap = true ∧ fullNode.addressed mine = true ∧ (fullNode.group mine.group).state ≠ .committing
        ∧ 16 ≤ fullNode.replies.queue.length + fullNode.replies.reservations ∧ fullNode.executor ≠ .reset)
      ∧ (1 ≤ [1#8].length ∧ [1#8].length ≤ 64 ∧ node.windows.lookup inside.toNat = some window
        ∧ inside.toNat + [1#8].length ≤ window.loopBase + window.bytes ∧ window.w = true ∧ window.s = true)
      ∧ (fullJournalNode.hears mine.gap = true ∧ fullJournalNode.addressed mine = true ∧ fullJournalNode.executor ≠ .reset
        ∧ 32 ≤ fullJournalNode.journal.length ∧ (fullJournalNode.group mine.group).state ≠ .committing)
      ∧ (1 ≤ (32#8).toNat ∧ (32#8).toNat ≤ 32 ∧ inside.toNat + (32#8).toNat ≤ window.loopBase + window.bytes
        ∧ window.r = true ∧ fullNode.windows.lookup inside.toNat = some window)
      ∧ (4 ≤ (32#8).toNat ∧ (32#8).toNat ≤ 32 ∧ (32#8).toNat % 4 = 0
        ∧ controlRangeOk (0x600#32).toNat ((32#8).toNat / 4) = true)
      ∧ ({ groupNode .committing .waiting with windows := closedNode.windows }.windows.lookup inside.toNat
          = some { window with r := false, w := false, s := false }) := by decide +kernel

theorem witness_RefusedControlContents :
    (0x008 % 4 = 0 ∧ 0x1FC % 4 = 0 ∧ 0x100 ≤ 0x1FC ∧ 0x1FC < 0x200 ∧ 0x1FC % 16 = 12)
      ∧ (node.hears mine.gap = true ∧ node.addressed mine = true ∧ 4 ≤ (wordBytes 2#32).length
        ∧ (wordBytes 2#32).length ≤ 64 ∧ (wordBytes 2#32).length % 4 = 0
        ∧ controlRangeOk (0x008#32).toNat ((wordBytes 2#32).length / 4) = true
        ∧ ∃ w ∈ controlWords (0x008#32).toNat (wordBytes 2#32), node.wordFails w.1 w.2 = true) := by decide +kernel

theorem witness_AnswersToAParcel : strange.dest ≠ 31#5 ∧ emptyStep.dest = 31#5 := by decide

theorem witness_NumberGivesOrTakesTheNumber :
    node.hears everyone.gap = true ∧ everyone.dest = 31#5 ∧ (1 ≤ (1#32).toNat ∧ (30#32).toNat ≤ 30)
      ∧ 31 ≤ (31#32).toNat ∧ (0#32 : Word) = 0#32 := by decide +kernel

theorem witness_LoopResetEmptiesTheNode : heldNode.hears everyone.gap = true ∧ everyone.dest = 31#5 := by decide +kernel

theorem witness_MemoryReadIsTaken :
    node.hears mine.gap = true ∧ node.addressed mine = true ∧ node.executor ≠ .reset ∧ 1 ≤ (32#8).toNat ∧ (32#8).toNat ≤ 32
      ∧ node.windows.lookup (0x00100FE0#32).toNat = some window
      ∧ (0x00100FE0#32).toNat + (32#8).toNat ≤ window.loopBase + window.bytes ∧ window.r = true
      ∧ node.journal.length < 32 ∧ node.replies.queue.length + node.replies.reservations < 16 := by decide +kernel

theorem witness_MemoryWriteIsTaken :
    node.hears mine.gap = true ∧ node.addressed mine = true ∧ node.executor ≠ .reset
      ∧ 1 ≤ (List.replicate 64 1#8).length ∧ (List.replicate 64 1#8).length ≤ 64
      ∧ node.windows.lookup (0x00100FC0#32).toNat = some window
      ∧ (0x00100FC0#32).toNat + (List.replicate 64 1#8).length ≤ window.loopBase + window.bytes ∧ window.w = true
      ∧ node.journal.length < 32 := by decide +kernel

theorem witness_StageIsTaken :
    (node.hears mine.gap = true ∧ node.addressed mine = true ∧ node.executor ≠ .reset ∧ 1 ≤ [1#8].length ∧ [1#8].length ≤ 64
        ∧ node.windows.lookup inside.toNat = some window ∧ inside.toNat + [1#8].length ≤ window.loopBase + window.bytes
        ∧ window.s = true ∧ node.journal.length < 32 ∧ (node.group mine.group).state = .empty)
      ∧ ((groupNode .opened .parked).hears mine.gap = true ∧ (groupNode .opened .parked).addressed mine = true
        ∧ (groupNode .opened .parked).executor ≠ .reset
        ∧ (groupNode .opened .parked).windows.lookup inside.toNat = some window
        ∧ (groupNode .opened .parked).journal.length < 32
        ∧ ((groupNode .opened .parked).group mine.group).state = .opened) := by decide +kernel

/-- Unicast and broadcast, OPEN and EMPTY. -/
theorem witness_CommitIsTaken :
    ((groupNode .opened .parked).hears mine.gap = true ∧ (groupNode .opened .parked).reached mine = true
        ∧ (groupNode .opened .parked).executor ≠ .reset
        ∧ (groupNode .opened .parked).replies.queue.length + (groupNode .opened .parked).replies.reservations < 16
        ∧ ((groupNode .opened .parked).group mine.group).state = .opened)
      ∧ (node.hears everyone.gap = true ∧ node.reached everyone = true ∧ node.executor ≠ .reset
        ∧ node.replies.queue.length + node.replies.reservations < 16 ∧ (node.group everyone.group).state = .empty) := by
  decide +kernel

theorem witness_DiscardIsTaken :
    ((groupNode .opened .parked).hears everyone.gap = true ∧ (groupNode .opened .parked).reached everyone = true
        ∧ (groupNode .opened .parked).replies.queue.length + (groupNode .opened .parked).replies.reservations < 16
        ∧ ((groupNode .opened .parked).group everyone.group).state = .opened)
      ∧ (heldNode.hears mine.gap = true ∧ heldNode.reached mine = true
        ∧ heldNode.replies.queue.length + heldNode.replies.reservations < 16
        ∧ (heldNode.group mine.group).state = .empty) := by decide +kernel

theorem witness_StepGivesCredits :
    (node.hears mine.gap = true ∧ node.reached mine = true ∧ 1 ≤ (15#8).toNat ∧ (15#8).toNat ≤ 15
        ∧ node.gate.mode = .opened)
      ∧ ({ node with gate := ⟨.held, 0⟩ }.hears everyone.gap = true
        ∧ { node with gate := ⟨.held, 0⟩ }.reached everyone = true ∧ 1 ≤ (1#8).toNat
        ∧ { node with gate := ⟨.held, 0⟩ }.gate.mode = .held) := by decide +kernel

theorem witness_LookupAndTranslation :
    node.windows.lookup 0x00100000 = some window
      ∧ window.sound = true ∧ window.contains 0x00100FFF = true ∧ window.fits 0x00100FFF 1 = true ∧ 1 ≤ 1 := by decide +kernel

theorem witness_OverlapAndBlocking :
    1 ≤ (entry .read 1#8 inside .waiting).length ∧ 1 ≤ (entry .posted 2#8 inside .parked).length := by decide

theorem witness_SweepIsTaken :
    node.hears everyone.gap = true ∧ everyone.dest = 31#5 ∧ node.loop.loopState = .numbered 5#5
      ∧ (List.replicate 144 0#8).length ∈ [36, 72, 108, 144]
      ∧ (0xFFFF0100#32).toNat / 2 ^ 9 % 2 ^ 7 = 0 ∧ (0xFFFF0100#32).toNat % 2 ^ 8 = 0 := by decide +kernel

/-- A reply unit with one of each, QUEUED. -/
def someItems : ReplyUnit :=
  { node.replies with
    queue := [⟨1#8, .readError .busError, some 9#8⟩, ⟨2#8, .discardDone 3, none⟩]
    faults := [⟨.localReset 0, 0, some 9#8⟩, ⟨.localReset 1, 0, none⟩] }
theorem witness_FillPriority :
    { someItems with attention := .pending }.attention = .pending
      ∧ (someItems.attention ≠ .pending
        ∧ someItems.faults = [⟨.localReset 0, 0, some 9#8⟩] ++ ⟨.localReset 1, 0, none⟩ :: []
        ∧ (∀ x ∈ [(⟨.localReset 0, 0, some 9#8⟩ : FaultRecord)], x.carrying ≠ none)
        ∧ (⟨.localReset 1, 0, none⟩ : FaultRecord).carrying = none)
      ∧ ((∀ f ∈ { someItems with faults := [] }.faults, f.carrying ≠ none)
        ∧ someItems.queue = [⟨1#8, .readError .busError, some 9#8⟩] ++ ⟨2#8, .discardDone 3, none⟩ :: []
        ∧ (∀ y ∈ [(⟨1#8, .readError .busError, some 9#8⟩ : ReplyEntry)], y.carrying ≠ none)
        ∧ (⟨2#8, .discardDone 3, none⟩ : ReplyEntry).carrying = none)
      ∧ (node.replies.attention ≠ .pending ∧ (∀ f ∈ node.replies.faults, f.carrying ≠ none)
        ∧ (∀ x ∈ node.replies.queue, x.carrying ≠ none)) := by decide

theorem witness_FillKeepsTheSweepWhole :
    ((List.replicate 72 0#8).length = 36 * 2 ∧ (∀ x ∈ someItems.queue, x.body.data.length ≤ 32))
      ∧ ([0x80#8].headD 0#8).msb = true ∧ ([0x7F#8].headD 0#8).msb = false
      ∧ (someItems.place 5#8).isSome = true ∧ node.replies.place 5#8 = none
      ∧ (fun st => (Status.code st).toNat) .abandoned = 5 := by decide +kernel

theorem witness_ControlReadIsTaken :
    node.hears mine.gap = true ∧ node.addressed mine = true ∧ 4 ≤ (32#8).toNat ∧ (32#8).toNat ≤ 32 ∧ (32#8).toNat % 4 = 0
      ∧ controlRangeOk (0x600#32).toNat ((32#8).toNat / 4) = true
      ∧ node.replies.queue.length + node.replies.reservations < 16 := by decide +kernel

/-- Two entries of a COMMITTING group, the first ISSUED. -/
def pairNode : State :=
  { node with
    journal := [entry (.staged 1#3) 0x11#8 0x40000000#32 .issued, entry (.staged 1#3) 0x12#8 0x40000100#32 .waiting]
    groups := node.groups.set 1 ⟨.committing, 2, some 0x60#8, 0, 0, 0, none⟩ }
theorem witness_StatusWordsShowTheirOwners :
    node.loop.loopState = .numbered 5#5 ∧ { node with gate := ⟨.held, 15⟩ }.gate.credits ≤ 15
      ∧ fullJournalNode.journal.length ≤ 32 ∧ node.journal.length ≤ 31 ∧ 31 < 32 ∧ 3 < 4
      ∧ (someItems.queue.length ≤ 16 ∧ someItems.reservations ≤ 16 ∧ someItems.faults.length ≤ 4 ∧ someItems.lostFaults ≤ 255)
      ∧ node.tallies.slots ≤ 65535 ∧ node.windows.activeBank[15] = WindowEntry.zero
      ∧ fullJournalNode.journal[31]? = some (entry .posted 0#8 0x40000000#32 .waiting)
      ∧ (entry .posted 0#8 0x40000000#32 .waiting).length ≤ 64
      ∧ ((pairNode.group 1#3).entryCount ≤ 32 ∧ (pairNode.group 1#3).written ≤ 32 ∧ (pairNode.group 1#3).failed ≤ 32) := by
  decide +kernel

/-- GATE, LOCAL LIMIT and COMMAND in one parcel, and the 64 bytes of four standby entries. -/
theorem witness_ControlWriteIsTaken :
    node.hears mine.gap = true ∧ node.addressed mine = true
      ∧ 4 ≤ (List.replicate 64 0#8).length ∧ (List.replicate 64 0#8).length ≤ 64 ∧ (List.replicate 64 0#8).length % 4 = 0
      ∧ controlRangeOk (0x1C0#32).toNat ((List.replicate 64 0#8).length / 4) = true
      ∧ (∀ w ∈ controlWords (0x1C0#32).toNat (List.replicate 64 0#8), node.wordFails w.1 w.2 = false)
      ∧ (∀ w ∈ controlWords 8 (wordBytes 1#32 ++ wordBytes 255#32 ++ wordBytes 4#32), node.wordFails w.1 w.2 = false) := by
  decide +kernel

theorem witness_GateAndLocalLimitWrites :
    node.hears mine.gap = true ∧ node.addressed mine = true ∧ (0#32 : Word) = 0#32 ∧ (1#32 : Word) = 1#32
      ∧ (255#32).toNat ≤ 255 := by decide +kernel

theorem witness_SwapIsValidated :
    (node.hears mine.gap = true ∧ node.addressed mine = true
        ∧ (∀ w ∈ node.windows.standbyBank.toList, w.valid = true →
          1 ≤ w.size.toNat ∧ w.loopBase + w.bytes ≤ 2 ^ 32 ∧ w.localBase + w.bytes ≤ 2 ^ 32))
      ∧ (overrunNode.hears mine.gap = true ∧ overrunNode.addressed mine = true
        ∧ (∃ w ∈ overrunNode.windows.standbyBank.toList, w.valid = true
          ∧ (w.size = 0#24 ∨ 2 ^ 32 < w.loopBase + w.bytes ∨ 2 ^ 32 < w.localBase + w.bytes))) := by decide +kernel

theorem witness_CopyEqualsTheBanks : node.hears mine.gap = true ∧ node.addressed mine = true := by decide +kernel
theorem witness_ClearTalliesLeavesOneTaken : node.hears mine.gap = true ∧ node.addressed mine = true := by decide +kernel
theorem witness_LocalResetCommandIsMomentary :
    (node.hears mine.gap = true ∧ node.addressed mine = true)
      ∧ (heldNode.hears mine.gap = true ∧ heldNode.addressed mine = true ∧ heldNode.executor = .reset) := by decide +kernel

theorem witness_StandbyBankWriteStoresItsWords :
    node.hears mine.gap = true ∧ node.addressed mine = true ∧ 1 ≤ [0x80000007#32].length ∧ [0x80000007#32].length ≤ 16
      ∧ (63#6).toNat + [0x80000007#32].length ≤ 64
      ∧ (∀ k, (h : k < [0x80000007#32].length) → node.wordFails (0x100 + 4 * ((63#6).toNat + k)) [0x80000007#32][k] = false) := by
  decide +kernel

def readyNode : State :=
  { node with
    gate := ⟨.held, 1⟩
    journal := [entry (.staged 1#3) 1#8 0x40000000#32 .parked, entry .read 2#8 0x40000004#32 .waiting,
      entry .posted 3#8 0x40000100#32 .waiting] }
theorem witness_IssueTakesTheOldestReadyEntry :
    (readyNode.powered = true ∧ readyNode.executor = .idle ∧ (readyNode.gate.mode = .opened ∨ 0 < readyNode.gate.credits)
        ∧ readyNode.journal[2]? = some (entry .posted 3#8 0x40000100#32 .waiting)
        ∧ (entry .posted 3#8 0x40000100#32 .waiting).state = .waiting ∧ blockedAt readyNode.journal 2 = false
        ∧ ∀ i < 2, ∀ x ∈ readyNode.journal[i]?, x.state ≠ .waiting ∨ blockedAt readyNode.journal i = true)
      ∧ heldNode.executor ≠ .idle
      ∧ ({ readyNode with gate := ⟨.held, 0⟩ }.gate.mode = .held ∧ { readyNode with gate := ⟨.held, 0⟩ }.gate.credits = 0)
      ∧ node.journal = [] := by decide +kernel

/-- The wait counts stand one below the limit, and at the limit. -/
def asking (wait : Nat) : State := { busy .requesting (operation .read 0x50000010#32 8 0 wait) with limit := 1#8 }
def moving (wait : Nat) : State := { busy .transferring (operation .posted 0x70000004#32 12 0 wait) with limit := 1#8 }
theorem witness_GrantAndWaitEdges :
    ((asking 14).powered = true ∧ (asking 14).executor = .requesting (operation .read 0x50000010#32 8 0 14)
        ∧ min (14 + 1) 4080 < 16 * (asking 14).limit.toNat)
      ∧ ((moving 14).powered = true ∧ (moving 14).executor = .transferring (operation .posted 0x70000004#32 12 0 14)
        ∧ min (14 + 1) 4080 < 16 * (moving 14).limit.toNat)
      ∧ { asking 4080 with limit := 0#8 }.limit = 0#8 ∧ node.executor = .idle ∧ heldNode.executor = .reset := by decide +kernel

theorem witness_LanesOfABeat : 7 < 8 ∧ 1 ≤ 64 ∧ 0x40000005 ≤ 0x40000011 ∧ 0x40000011 < 0x40000005 + 13 := by decide

theorem witness_FailingEdges :
    ((asking 15).powered = true ∧ (asking 15).executor = .requesting (operation .read 0x50000010#32 8 0 15)
        ∧ 1 ≤ (asking 15).limit.toNat ∧ 16 * (asking 15).limit.toNat ≤ min (15 + 1) 4080)
      ∧ ((moving 15).powered = true ∧ (moving 15).executor = .transferring (operation .posted 0x70000004#32 12 0 15)
        ∧ 1 ≤ (moving 15).limit.toNat ∧ 16 * (moving 15).limit.toNat ≤ min (15 + 1) 4080) := by decide +kernel

theorem witness_BeatDoneAndCompletion :
    ((moving 0).powered = true ∧ (moving 0).executor = .transferring (operation .posted 0x70000004#32 12 0 0)
        ∧ 0 + 1 < beatCount (0x70000004#32).toNat 12)
      ∧ ((busy .transferring (operation .posted 0x70000004#32 12 1 0)).executor =
          .transferring (operation .posted 0x70000004#32 12 1 0)
        ∧ 1 + 1 = beatCount (0x70000004#32).toNat 12) := by decide +kernel

/-- A READ, a POSTED entry, and a COMMITTING group's last and not last entry. -/
theorem witness_EndOfAnOperation :
    ((asking 0).journal = [] ++ ⟨.read, 0x5A#8, 0x50000010#32, 8, [], .issued⟩ :: []
        ∧ (⟨.read, 0x5A#8, 0x50000010#32, 8, [], .issued⟩ : Entry).state = .issued)
      ∧ (moving 0).journal = [] ++ ⟨.posted, 0x5A#8, 0x70000004#32, 12, List.replicate 12 7#8, .issued⟩ :: []
      ∧ ((groupNode .committing .issued).journal = [] ++ entry (.staged 1#3) 0x11#8 0x40000000#32 .issued :: []
        ∧ (entry (.staged 1#3) 0x11#8 0x40000000#32 .issued).state = .issued
        ∧ ((groupNode .committing .issued).group 1#3).state = .committing
        ∧ ((groupNode .committing .issued).group 1#3).entryCount - 1 = 0)
      ∧ (pairNode.journal = [] ++ entry (.staged 1#3) 0x11#8 0x40000000#32 .issued
          :: [entry (.staged 1#3) 0x12#8 0x40000100#32 .waiting]
        ∧ (pairNode.group 1#3).entryCount - 1 ≠ 0) := by decide +kernel

theorem witness_LrstFallAndRise :
    ((groupNode .committing .waiting).powered = true ∧ (groupNode .committing .waiting).lrstLow = false)
      ∧ (heldNode.powered = true ∧ heldNode.lrstLow = true ∧ heldNode.executor = .reset) := by decide +kernel

theorem witness_AttnRiseAsksForAttention : node.powered = true := by rfl

/-- A node with a COMMITTING group meets every law that a step keeps, and a step of it answers a next state. -/
def lawful : State := { groupNode .committing .waiting with pending := [.issue] }
/-- The same with its entry ISSUED and the operation in flight. -/
def lawfulBusy : State := { after .issue lawful with pending := [.grantWaitEdge] }
theorem lawfulBusy_inFlight :
    lawfulBusy.executor.inFlight = some (entry (.staged 1#3) 0x11#8 0x40000000#32 .issued).operation := by decide +kernel
theorem witness_EveryStepKeepsTheWorkLaws :
    (lawful.workLaws ∧ step lawful = .next (after .issue { lawful with pending := [] }))
      ∧ (lawfulBusy.workLaws ∧ step lawfulBusy = .next (after .grantWaitEdge { lawfulBusy with pending := [] })) := by
  refine ⟨⟨⟨?_, (fun _ h => nomatch h), ?_⟩, rfl⟩, ⟨?_, ?_, ?_⟩, rfl⟩
  · unfold State.issuedLaw; decide +kernel
  · unfold State.groupLaw Group.recordOk State.reservationLaw State.roomLaw; decide +kernel
  · unfold State.issuedLaw; decide +kernel
  · intro op h
    rw [lawfulBusy_inFlight, Option.some.injEq] at h
    subst h
    decide +kernel
  · unfold State.groupLaw Group.recordOk State.reservationLaw State.roomLaw; decide +kernel
theorem witness_EveryStepKeepsTheOverlapLaw :
    lawful.overlapLaw ∧ step lawful = .next (after .issue { lawful with pending := [] }) := by
  refine ⟨?_, rfl⟩
  unfold State.overlapLaw
  decide +kernel
theorem witness_EveryStepKeepsTheTransferLaws :
    lawful.transferLaws ∧ step lawful = .next (after .issue { lawful with pending := [] }) := by
  refine ⟨⟨?_, ?_, trivial, ?_⟩, rfl⟩
  · unfold State.activeBankLaw; decide +kernel
  · unfold State.rangeLaw Entry.rangeOk; decide +kernel
  · unfold State.dataLaw; decide +kernel
theorem witness_EveryStepKeepsTheRegisterLaws :
    (lawful.gateLaw ∧ lawful.pinsLaw ∧ lawful.portLaw ∧ lawful.lrstLaw ∧ lawful.numberLaw ∧ lawful.tallyLaw ∧ lawful.faultLaw)
      ∧ step lawful = .next (after .issue { lawful with pending := [] }) := by
  refine ⟨⟨?_, fun _ => rfl, ?_, ?_, ?_, ?_, ?_⟩, rfl⟩
  · unfold State.gateLaw; decide +kernel
  · unfold State.portLaw; decide +kernel
  · unfold State.lrstLaw; decide +kernel
  · unfold State.numberLaw; decide +kernel
  · unfold State.tallyLaw; decide +kernel
  · unfold State.faultLaw; decide +kernel
theorem witness_EveryStepKeepsTheBufferLaw :
    lawful.transferLaws ∧ lawful.bufferLaw ∧ step lawful = .next (after .issue { lawful with pending := [] }) := by
  refine ⟨witness_EveryStepKeepsTheTransferLaws.1, ?_, rfl⟩
  unfold State.bufferLaw
  decide +kernel
theorem witness_LocalSideOnlyConverts :
    Instr.issue.atLocalSide = true ∧ lawful.workLaws ∧ exec .issue lawful = .next (after .issue lawful) :=
  ⟨rfl, witness_EveryStepKeepsTheWorkLaws.1.1, rfl⟩
theorem witness_JournalKeepsOrderAndFields : step lawful = .next (after .issue { lawful with pending := [] }) := by rfl
theorem witness_ActiveBankChangesOnlyBySwap : step lawful = .next (after .issue { lawful with pending := [] }) := by rfl

end Sys2Proof.Tests
end

section
/-! PROOFS. One byte time and many at loop-out (R1, R3): what leaves, when a waiting run begins, what the buffer holds. -/

-- As in the tests: declarations are elaborated one after another, not side by side.
set_option Elab.async false

namespace Sys2Proof.Machine

@[simp] theorem Queued.age_bytes (q : Queued) : q.age.bytes = q.bytes := rfl
@[simp] theorem Queued.age_waited (q : Queued) : q.age.waited = min (q.waited + 1) 2 := rfl

/-- Growing older changes no byte of the waiting runs. -/
theorem map_age_bytes (waiting : List Queued) : (waiting.map Queued.age).map (·.bytes) = waiting.map (·.bytes) := by
  simp

theorem LoopPort.byteTimes_succ (n : Nat) (l : LoopPort) : l.byteTimes (n + 1) = l.byteTime.byteTimes n := rfl

/-- A byte time while a run is being sent sends its next byte (R3). -/
theorem LoopPort.byteTime_sending {l : LoopPort} {b : Byte} {rest : List Byte} (h : l.sending = b :: rest) :
    l.byteTime = l.present b rest l.buffer := by
  simp [LoopPort.byteTime, h]

/-- With nothing being sent, the oldest waiting run begins once both gaps are kept; else the byte time is quiet (R3). -/
theorem LoopPort.byteTime_waiting {l : LoopPort} {b : Byte} {rest : List Byte} {waited : Nat} {later : List Queued}
    (hs : l.sending = []) (hb : l.buffer = ⟨b :: rest, waited⟩ :: later) :
    l.byteTime = if 2 ≤ l.idle ∧ 2 ≤ waited then l.present b rest later else l.quiet := by
  simp only [LoopPort.byteTime, hs, hb]
  rfl

/-! ### Until the oldest waiting run begins (R3) -/

/-- Byte times that pass before the oldest waiting run begins: the larger of the two waits of R3. -/
def LoopPort.waits (l : LoopPort) (waited : Nat) : Nat :=
  max (2 - waited) (if l.sending = [] then 2 - l.idle else l.sending.length + 2)

theorem LoopPort.untilSend_eq (l : LoopPort) (q : Queued) : l.untilSend q = l.waits q.waited + 1 := by
  cases h : l.sending <;> simp [LoopPort.untilSend, LoopPort.waits, h]

/-- While a wait remains, a byte time leaves every run waiting and shortens the wait by 1. -/
theorem LoopPort.byteTime_of_waits_succ {l : LoopPort} {b : Byte} {rest : List Byte} {waited n : Nat}
    {later : List Queued} (hb : l.buffer = ⟨b :: rest, waited⟩ :: later) (hw : l.waits waited = n + 1) :
    l.byteTime.buffer = l.buffer.map Queued.age ∧ l.byteTime.waits (min (waited + 1) 2) = n := by
  cases hs : l.sending with
  | nil =>
    simp only [LoopPort.waits, hs, if_true] at hw
    have : ¬ (2 ≤ l.idle ∧ 2 ≤ waited) := by omega
    rw [LoopPort.byteTime_waiting hs hb, if_neg this]
    refine ⟨rfl, ?_⟩
    simp only [LoopPort.waits, LoopPort.quiet, Config.gapTimes, hs, if_true]
    omega
  | cons x xs =>
    rw [LoopPort.byteTime_sending hs]
    refine ⟨rfl, ?_⟩
    simp only [LoopPort.waits, hs, reduceCtorEq, if_false, List.length_cons] at hw
    cases xs with
    | nil => simp only [LoopPort.waits, LoopPort.present, if_true, List.length_nil] at hw ⊢; omega
    | cons y ys =>
      simp only [LoopPort.waits, LoopPort.present, reduceCtorEq, if_false, List.length_cons] at hw ⊢
      omega

/-- With no wait left, the next byte time begins the oldest waiting run. -/
theorem LoopPort.byteTime_of_waits_zero {l : LoopPort} {b : Byte} {rest : List Byte} {waited : Nat}
    {later : List Queued} (hb : l.buffer = ⟨b :: rest, waited⟩ :: later) (hw : l.waits waited = 0) :
    l.byteTime = l.present b rest later := by
  cases hs : l.sending with
  | nil =>
    simp only [LoopPort.waits, hs, if_true] at hw
    rw [LoopPort.byteTime_waiting hs hb, if_pos (by omega)]
  | cons x xs => simp [LoopPort.waits, hs] at hw

/-- The oldest waiting run begins after exactly its waits, every other waiting run aged by as many byte times (R3). -/
theorem LoopPort.byteTimes_begin (n : Nat) {l : LoopPort} {b : Byte} {rest : List Byte} {waited : Nat}
    {later : List Queued} (hb : l.buffer = ⟨b :: rest, waited⟩ :: later) (hw : l.waits waited = n) :
    l.byteTimes (n + 1) =
      { l with buffer := later.map (fun q => { q with waited := min (q.waited + (n + 1)) 2 }), sending := rest,
               idle := 0, lfo := true, ldo := b } := by
  induction n generalizing l waited later with
  | zero => rw [LoopPort.byteTimes_succ, LoopPort.byteTime_of_waits_zero hb hw]; rfl
  | succ n ih =>
    obtain ⟨hbuf, hwait⟩ := LoopPort.byteTime_of_waits_succ hb hw
    rw [LoopPort.byteTimes_succ, ih (hbuf.trans (congrArg _ hb)) hwait]
    have haged : (later.map Queued.age).map (fun q => { q with waited := min (q.waited + (n + 1)) 2 })
        = later.map (fun q => { q with waited := min (q.waited + (n + 1 + 1)) 2 }) := by
      rw [List.map_map]
      refine List.map_congr_left fun q _ => ?_
      simp only [Function.comp, Queued.age_bytes, Queued.age_waited, Queued.mk.injEq, true_and]
      omega
    rw [haged]
    rcases l.byteTime_cases with h | ⟨_, _, _, h⟩ | ⟨_, _, _, _, _, _, _, _, h⟩ <;> rw [h] <;> rfl

/-- Until its waits are over the oldest waiting run waits, and all runs behind it (R3). -/
theorem LoopPort.byteTimes_wait (m : Nat) {l : LoopPort} {b : Byte} {rest : List Byte} {waited : Nat}
    {later : List Queued} (hb : l.buffer = ⟨b :: rest, waited⟩ :: later) (hm : m ≤ l.waits waited) :
    (l.byteTimes m).buffer.map (·.bytes) = (b :: rest) :: later.map (·.bytes) := by
  induction m generalizing l waited later with
  | zero => simp [LoopPort.byteTimes, hb]
  | succ m ih =>
    obtain ⟨n, hn⟩ : ∃ n, l.waits waited = n + 1 := ⟨l.waits waited - 1, by omega⟩
    obtain ⟨hbuf, hwait⟩ := LoopPort.byteTime_of_waits_succ hb hn
    have hm' : m ≤ l.byteTime.waits (min (waited + 1) 2) := by omega
    rw [LoopPort.byteTimes_succ, ih (hbuf.trans (congrArg _ hb)) hm', map_age_bytes]

theorem execParcelSend_powered {s : State} (hp : s.powered = true) :
    exec .parcelSend s = .next { s with loop := s.loop.sendNext } := by
  simp [exec, execParcelSend, hp]

/-! ### Bytes held (R4) -/

@[simp] theorem LoopPort.quiet_held (l : LoopPort) : l.quiet.held = l.held := by
  simp [LoopPort.held, LoopPort.quiet, Function.comp_def]

@[simp] theorem LoopPort.present_held (l : LoopPort) (b : Byte) (rest : List Byte) (waiting : List Queued) :
    (l.present b rest waiting).held = (waiting.map (·.bytes.length)).sum + rest.length := by
  simp [LoopPort.held, LoopPort.present, Function.comp_def]

/-- A byte time adds no byte to the forwarding buffer. -/
theorem LoopPort.byteTime_held_le (l : LoopPort) : l.byteTime.held ≤ l.held := by
  rcases l.byteTime_cases with h | ⟨b, rest, hs, h⟩ | ⟨b, rest, _, waiting, hs, hb, _, _, h⟩ <;> rw [h]
  · exact l.quiet_held.le
  · rw [LoopPort.present_held, LoopPort.held, hs]; simp
  · rw [LoopPort.present_held, LoopPort.held, hs, hb]; simp; omega

theorem LoopPort.byteTimes_held_le (n : Nat) (l : LoopPort) : (l.byteTimes n).held ≤ l.held := by
  induction n generalizing l with
  | zero => exact le_rfl
  | succ n ih => exact (ih _).trans l.byteTime_held_le

theorem LoopPort.byteTimes_add (m n : Nat) (l : LoopPort) : l.byteTimes (m + n) = (l.byteTimes m).byteTimes n := by
  induction m generalizing l with
  | zero => simp [LoopPort.byteTimes]
  | succ m ih => rw [Nat.succ_add, LoopPort.byteTimes_succ, ih]; rfl

end Sys2Proof.Machine

namespace Sys2Proof.Proofs

open Sys2Proof.Machine

/-- Settles O2, powered or not. -/
theorem emptyQueueStepIsOneByteTime : Obligations.EmptyQueueStepIsOneByteTime := by
  intro s
  cases h : s.powered <;> simp [step, tick, State.pass, LoopPort.byteTimes]

/-- Settles O6: each byte time before the run begins shortens the larger of R3's two waits by 1. -/
theorem parcelSendBeginsTheOldestRun : Obligations.ParcelSendBeginsTheOldestRun := by
  intro s b rest waited later n hp hb hn
  have hn : n = s.loop.waits waited + 1 := hn
  have hsend : s.loop.sendNext = s.loop.byteTimes n := by
    simp [LoopPort.sendNext, hb, LoopPort.untilSend_eq, hn]
  refine ⟨by rw [execParcelSend_powered hp, hsend], ?_, fun m hm => ?_⟩
  · subst hn
    exact LoopPort.byteTimes_begin _ hb rfl
  · exact LoopPort.byteTimes_wait m hb (by omega)

/-- Settles O7, by the three things a byte time at loop-out can be. -/
theorem loopOutKeepsOrderAndGaps : Obligations.LoopOutKeepsOrderAndGaps := by
  intro l
  cases hs : l.sending with
  | cons b rest =>
    rw [LoopPort.byteTime_sending hs]
    simp [LoopPort.present, List.flatMap_map]
  | nil =>
    rcases l.byteTime_cases with h | ⟨b, rest, hs', _⟩ | ⟨b, rest, waited, later, _, hb, hi, hw, h⟩
    · rw [h]
      simp [LoopPort.quiet, hs, List.flatMap_map]
    · simp [hs] at hs'
    · rw [h]
      refine ⟨?_, by simp, fun _ _ => ⟨hi, _, _, hb, hw⟩, by simp [LoopPort.present]⟩
      simp [LoopPort.present, hb, List.flatMap_map]

end Sys2Proof.Proofs
end

section
/-! PROOFS. Words by their bytes and fields, a parcel's bytes and their reading back (R6, R8, R15). -/

set_option Elab.async false

namespace Sys2Proof

/-! ### Fields of words -/

/-- Fields side by side as numbers. -/
theorem toNat_append_add {m n : Nat} (x : BitVec m) (y : BitVec n) :
    (x ++ y).toNat = x.toNat * 2 ^ n + y.toNat := by
  rw [BitVec.toNat_append, ← Nat.shiftLeft_add_eq_or_of_lt y.isLt, Nat.shiftLeft_eq]

/-- A field of a word as a number. -/
theorem toNat_field {w : Nat} (start len : Nat) (x : BitVec w) :
    (x.extractLsb' start len).toNat = x.toNat / 2 ^ start % 2 ^ len := by
  rw [BitVec.extractLsb'_toNat, Nat.shiftRight_eq_div_pow]

theorem wordOf_toNat (b3 b2 b1 b0 : Byte) :
    (wordOf b3 b2 b1 b0).toNat = b3.toNat * 2 ^ 24 + b2.toNat * 2 ^ 16 + b1.toNat * 2 ^ 8 + b0.toNat := by
  simp only [wordOf, toNat_append_add]
  omega

/-- The four bytes of a word spell the word. -/
theorem wordOf_wordBytes (w : Word) :
    wordOf (w.extractLsb' 24 8) (w.extractLsb' 16 8) (w.extractLsb' 8 8) (w.extractLsb' 0 8) = w := by
  apply BitVec.eq_of_toNat_eq
  simp only [wordOf_toNat, toNat_field]
  have := w.isLt
  omega

/-- A word that four bytes spell has those bytes. -/
theorem wordBytes_wordOf (b3 b2 b1 b0 : Byte) : wordBytes (wordOf b3 b2 b1 b0) = [b3, b2, b1, b0] := by
  simp only [wordBytes, List.cons.injEq, and_true]
  refine ⟨?_, ?_, ?_, ?_⟩ <;>
  · apply BitVec.eq_of_toNat_eq
    simp only [toNat_field, wordOf_toNat]
    omega

theorem halfBytes_append (c1 c0 : Byte) : halfBytes (c1 ++ c0) = [c1, c0] := by
  simp only [halfBytes, List.cons.injEq, and_true]
  constructor <;>
  · apply BitVec.eq_of_toNat_eq
    simp only [toNat_field, toNat_append_add]
    omega

/-- The two bytes of a check word spell the check word. -/
theorem append_halfBytes (c : Half) : (c.extractLsb' 8 8 ++ c.extractLsb' 0 8 : Half) = c := by
  apply BitVec.eq_of_toNat_eq
  simp only [toNat_field, toNat_append_add]
  have := c.isLt
  omega

/-! ### Header bytes 0 and 1 (R8) -/

/-- DEST and GROUP read back from byte 0. -/
theorem byteZero_fields (dest : BitVec 5) (group : BitVec 3) :
    (dest ++ group : Byte).extractLsb' 3 5 = dest ∧ (dest ++ group : Byte).extractLsb' 0 3 = group :=
  ⟨BitVec.extractLsb'_append_eq_left, BitVec.extractLsb'_append_eq_right⟩

/-- Byte 0 is its DEST and GROUP. -/
theorem byteZero_eq (b : Byte) : (b.extractLsb' 3 5 ++ b.extractLsb' 0 3 : Byte) = b := by
  apply BitVec.eq_of_toNat_eq
  simp only [toNat_field, toNat_append_add]
  have := b.isLt
  omega

/-- KIND, SPACE, DAMAGED and the zero bits read back from byte 1. -/
theorem byteOne_fields : ∀ (kind : BitVec 4) (control damaged : Bool) (zeros : BitVec 2),
    (kind ++ BitVec.ofBool control ++ BitVec.ofBool damaged ++ zeros : Byte).extractLsb' 4 4 = kind
    ∧ (kind ++ BitVec.ofBool control ++ BitVec.ofBool damaged ++ zeros : Byte).getLsbD 3 = control
    ∧ (kind ++ BitVec.ofBool control ++ BitVec.ofBool damaged ++ zeros : Byte).getLsbD 2 = damaged
    ∧ (kind ++ BitVec.ofBool control ++ BitVec.ofBool damaged ++ zeros : Byte).extractLsb' 0 2 = zeros := by
  decide +kernel

/-- Byte 1 is its KIND, SPACE, DAMAGED and zero bits. -/
theorem byteOne_eq : ∀ b : Byte,
    (b.extractLsb' 4 4 ++ BitVec.ofBool (b.getLsbD 3) ++ BitVec.ofBool (b.getLsbD 2) ++ b.extractLsb' 0 2 : Byte) = b := by
  decide +kernel

/-! ### Reading a parcel (R6, R8) -/

/-- A parcel's run byte by byte. -/
theorem Parcel.run_eq (p : Parcel) (c : Half) :
    p.run c = (p.dest ++ p.group) :: (p.kind ++ BitVec.ofBool p.control ++ BitVec.ofBool p.damaged ++ p.zeros)
      :: p.tag :: p.mark :: p.lengthByte :: p.address.extractLsb' 24 8 :: p.address.extractLsb' 16 8
      :: p.address.extractLsb' 8 8 :: p.address.extractLsb' 0 8
      :: (p.payload ++ [c.extractLsb' 8 8, c.extractLsb' 0 8]) := by
  simp [Parcel.run, Parcel.body, Parcel.header, wordBytes, halfBytes]

theorem Parcel.lengthByte_toNat {p : Parcel} (h : p.payload.length ≤ 255) :
    p.lengthByte.toNat = p.payload.length := by
  simp only [Parcel.lengthByte, BitVec.toNat_ofNat]
  omega

/-- Reading a parcel's run gives the parcel and its check word back. -/
theorem readParcel_run {p : Parcel} (c : Half) (h : p.payload.length ≤ 255) :
    readParcel (p.run c) = some (p, c) := by
  rw [Parcel.run_eq, readParcel]
  simp only [Parcel.lengthByte_toNat h, List.drop_left, List.take_left, byteZero_fields, byteOne_fields,
    append_halfBytes, wordOf_wordBytes]

/-- A run that reads as a parcel is the run of that parcel, whose payload LENGTH can count. -/
theorem run_of_readParcel {run : List Byte} {p : Parcel} {c : Half} (h : readParcel run = some (p, c)) :
    p.run c = run ∧ p.payload.length ≤ 255 := by
  unfold readParcel at h
  split at h
  · next b0 b1 tag mark len a3 a2 a1 a0 rest =>
    split at h
    · next c1 c0 hdrop =>
      obtain ⟨rfl, rfl⟩ := Prod.mk.inj (Option.some.inj h)
      have hlen : rest.length = len.toNat + 2 := by
        have := congrArg List.length hdrop
        simp at this
        omega
      have hpayload : (rest.take len.toNat).length = len.toNat := by simp [hlen]
      refine ⟨?_, hpayload.trans_le (Nat.le_of_lt_succ len.isLt)⟩
      have hrest : rest.take len.toNat ++ [c1, c0] = rest := by rw [← hdrop, List.take_append_drop]
      have hl : Parcel.lengthByte ⟨b0.extractLsb' 3 5, b0.extractLsb' 0 3, b1.extractLsb' 4 4, b1.getLsbD 3,
          b1.getLsbD 2, b1.extractLsb' 0 2, tag, mark, wordOf a3 a2 a1 a0, rest.take len.toNat⟩ = len := by
        simp only [Parcel.lengthByte, hpayload, BitVec.ofNat_toNat, BitVec.setWidth_eq]
      have hw := wordBytes_wordOf a3 a2 a1 a0
      have hc := halfBytes_append c1 c0
      simp only [Parcel.run, Parcel.body, Parcel.header, hl, hw, hc, byteZero_eq, byteOne_eq, List.cons_append,
        List.nil_append, hrest]
    · simp at h
  · simp at h

/-- The runs that read as a parcel are the correctly framed ones: 11 bytes and as many more as LENGTH says. -/
theorem readParcel_isSome (run : List Byte) : (readParcel run).isSome = framed run := by
  rw [Bool.eq_iff_iff, Option.isSome_iff_exists]
  constructor
  · rintro ⟨⟨p, c⟩, h⟩
    obtain ⟨rfl, hp⟩ := run_of_readParcel h
    have hl := Parcel.run_length p c
    rw [Parcel.run_eq] at hl ⊢
    simp only [framed, hl, Parcel.lengthByte_toNat hp, beq_self_eq_true]
  · intro h
    unfold framed at h
    split at h
    · next b0 b1 tag mark len tail =>
      have hlen : tail.length = 6 + len.toNat := by simp at h; omega
      obtain ⟨a3, a2, a1, a0, rest, rfl⟩ : ∃ a3 a2 a1 a0 rest, tail = a3 :: a2 :: a1 :: a0 :: rest := by
        match tail, hlen with
        | a3 :: a2 :: a1 :: a0 :: rest, _ => exact ⟨a3, a2, a1, a0, rest, rfl⟩
        | [], h | [_], h | [_, _], h | [_, _, _], h => simp at h; omega
      obtain ⟨c1, c0, hd⟩ : ∃ c1 c0, rest.drop len.toNat = [c1, c0] :=
        List.length_eq_two.mp (by simp at hlen ⊢; omega)
      simp [readParcel, hd]
    · simp at h

/-! ### The check word (R6) -/

/-- A bit of its own top bit shifts the register and adds nothing. -/
theorem crcBit_msb (reg : Half) : crcBit reg reg.msb = reg <<< 1 := by
  simp [crcBit]

/-- What the feedback adds to the register is linear in the bit fed back. -/
theorem feedback_xor (a b : Bool) :
    (if a ^^ b then 0x8005#16 else 0#16) = (if a then 0x8005#16 else 0#16) ^^^ (if b then 0x8005#16 else 0#16) := by
  cases a <;> cases b <;> rfl

theorem crcBit_eq (reg : Half) (bit : Bool) :
    crcBit reg bit = reg <<< 1 ^^^ (if reg.msb ^^ bit then 0x8005#16 else 0#16) := by
  cases h : reg.msb <;> cases bit <;> simp [crcBit, h]

/-- The register is linear in its contents and the bit that enters. -/
theorem crcBit_xor (r r' : Half) (a b : Bool) : crcBit (r ^^^ r') (a ^^ b) = crcBit r a ^^^ crcBit r' b := by
  have hbit : ((r ^^^ r').msb ^^ (a ^^ b)) = ((r.msb ^^ a) ^^ (r'.msb ^^ b)) := by
    simp only [BitVec.msb_xor, Bool.xor_assoc, Bool.xor_left_comm]
  rw [crcBit_eq, crcBit_eq, crcBit_eq, hbit, feedback_xor, BitVec.shiftLeft_xor_distrib]
  ac_rfl

theorem foldl_crcBit_xor (bits : List Nat) (r r' : Half) (x y : Byte) :
    bits.foldl (fun r i => crcBit r ((x ^^^ y).getLsbD i)) (r ^^^ r')
      = bits.foldl (fun r i => crcBit r (x.getLsbD i)) r ^^^ bits.foldl (fun r i => crcBit r (y.getLsbD i)) r' := by
  induction bits generalizing r r' with
  | nil => rfl
  | cons i bits ih =>
    simp only [List.foldl_cons]
    rw [← ih, BitVec.getLsbD_xor, crcBit_xor]

theorem crcByte_xor (r r' : Half) (x y : Byte) : crcByte (r ^^^ r') (x ^^^ y) = crcByte r x ^^^ crcByte r' y :=
  foldl_crcBit_xor _ r r' x y

/-- No register but 0 becomes 0 while zero bits enter. -/
theorem eq_zero_of_crcBit_false {r : Half} (h : crcBit r false = 0#16) : r = 0#16 := by
  have hlow : (crcBit r false).getLsbD 0 = r.msb := by
    cases hm : r.msb <;> simp [crcBit, hm]
  rw [h] at hlow
  have hm : r.msb = false := by simpa using hlow.symm
  have hshift : r <<< 1 = 0#16 := by simpa [crcBit, hm] using h
  rw [BitVec.msb_eq_false_iff_two_mul_lt] at hm
  have := congrArg BitVec.toNat hshift
  simp only [BitVec.toNat_shiftLeft, Nat.shiftLeft_eq, BitVec.toNat_ofNat] at this
  exact BitVec.eq_of_toNat_eq (by simp; omega)

theorem eq_zero_of_foldl_crcBit_zero (bits : List Nat) {r : Half}
    (h : bits.foldl (fun r i => crcBit r ((0#8).getLsbD i)) r = 0#16) : r = 0#16 := by
  induction bits generalizing r with
  | nil => exact h
  | cons i bits ih =>
    have hbit : crcBit r ((0#8).getLsbD i) = 0#16 := ih h
    rw [BitVec.getLsbD_zero] at hbit
    exact eq_zero_of_crcBit_false hbit

/-- The register after a byte tells the registers before it apart. -/
theorem crcByte_injective (b : Byte) : Function.Injective (crcByte · b) := by
  intro r r' h
  have hx := crcByte_xor r r' b b
  rw [BitVec.xor_self, show crcByte r b = crcByte r' b from h, BitVec.xor_self] at hx
  exact BitVec.xor_eq_zero_iff.mp (eq_zero_of_foldl_crcBit_zero _ hx)

/-- No byte but 0 leaves a register of 0 as it is. -/
theorem crcByte_zero_ne : ∀ z : Byte, z ≠ 0#8 → crcByte 0#16 z ≠ 0#16 := by
  decide +kernel

/-- Two different bytes leave different registers. -/
theorem crcByte_ne (r : Half) {x y : Byte} (h : x ≠ y) : crcByte r x ≠ crcByte r y := by
  intro he
  have hx := crcByte_xor r r x y
  rw [BitVec.xor_self, he, BitVec.xor_self] at hx
  exact crcByte_zero_ne _ (mt BitVec.xor_eq_zero_iff.mp h) hx

theorem foldl_crcByte_injective (bytes : List Byte) : Function.Injective (bytes.foldl crcByte) := by
  induction bytes with
  | nil => exact Function.injective_id
  | cons b bytes ih => exact ih.comp (crcByte_injective b)

/-- The first `n` bits of the register's own high byte shift the register by `n` and add nothing. -/
theorem foldl_crcBit_high (reg : Half) (n : Nat) (hn : n ≤ 8) :
    (List.range n).foldl (fun r k => crcBit r ((reg.extractLsb' 8 8).getLsbD (7 - k))) reg = reg <<< n := by
  induction n with
  | zero => simp
  | succ k ih =>
    have hbit : (reg.extractLsb' 8 8).getLsbD (7 - k) = (reg <<< k).msb := by
      rw [BitVec.getLsbD_extractLsb', BitVec.msb_eq_getLsbD_last, BitVec.getLsbD_shiftLeft]
      have : 7 - k < 8 ∧ 8 + (7 - k) = 15 - k ∧ ¬ 15 < k := by omega
      simp [this]
    rw [List.range_succ, List.foldl_append, ih (by omega), List.foldl_cons, List.foldl_nil, hbit, crcBit_msb,
      ← BitVec.shiftLeft_add]

theorem crcByte_high (reg : Half) : crcByte reg (reg.extractLsb' 8 8) = reg <<< 8 :=
  foldl_crcBit_high reg 8 le_rfl

/-- A register that takes its own two bytes holds 0. -/
theorem crcByte_halfBytes (reg : Half) : (halfBytes reg).foldl crcByte reg = 0#16 := by
  have hlow : reg.extractLsb' 0 8 = (reg <<< 8).extractLsb' 8 8 := by
    apply BitVec.eq_of_toNat_eq
    simp only [toNat_field, BitVec.toNat_shiftLeft, Nat.shiftLeft_eq]
    omega
  calc (halfBytes reg).foldl crcByte reg
      = crcByte (crcByte reg (reg.extractLsb' 8 8)) (reg.extractLsb' 0 8) := rfl
    _ = (reg <<< 8) <<< 8 := by rw [crcByte_high, hlow, crcByte_high]
    _ = 0#16 := by rw [← BitVec.shiftLeft_add, BitVec.shiftLeft_eq_zero (by decide)]

end Sys2Proof

namespace Sys2Proof.Proofs

/-- Settles O11, by the parcel's bytes one by one and the length of its run. -/
theorem parcelBytesRoundTrip : Obligations.ParcelBytesRoundTrip :=
  ⟨fun _ c h => readParcel_run c h, fun _ _ _ h => run_of_readParcel h, readParcel_isSome⟩

/-- Settles O12: the register is linear, and it tells apart the registers before a byte and the bytes themselves. -/
theorem checkWordDetectsAWrongByte : Obligations.CheckWordDetectsAWrongByte := by
  constructor
  · intro bytes
    rw [crc, List.foldl_append]
    exact crcByte_halfBytes (crc bytes)
  · intro before after x y hxy h
    simp only [crc, List.foldl_append, List.foldl_cons] at h
    exact crcByte_ne _ hxy (foldl_crcByte_injective after h)

end Sys2Proof.Proofs
end

section
/-! PROOFS. What the arrival of a run comes to, whatever command brings it (R2 to R7). -/

set_option Elab.async false

namespace Sys2Proof.Machine

/-! ### A run at loop-in (R2, R4) -/

/-- The arrival of a run: nothing in power-on reset, discarded, dropped whole, cut at its 267th byte, or judged at its
last. -/
theorem arriveRun_cases (gap : Nat) (run : List Byte) (judge : State → State) (s : State) :
    (s.powered = false ∧ arriveRun gap run judge s = s)
    ∨ (s.powered = true ∧ s.loop.discarding = true ∧ arriveRun gap run judge s = s.pass (min run.length 267))
    ∨ (s.powered = true ∧ s.loop.discarding = false ∧ (s.pass (max gap 1)).loop.free < 266
        ∧ arriveRun gap run judge s = (s.pass (max gap 1 + min run.length 267)).raiseFraming.discardRun)
    ∨ (s.hears gap = true ∧ 266 < run.length
        ∧ arriveRun gap run judge s = cutOverlong run (s.pass (max gap 1 + 267)))
    ∨ (s.hears gap = true ∧ run.length ≤ 266
        ∧ arriveRun gap run judge s = judge (s.pass (max gap 1 + run.length))) := by
  unfold arriveRun
  split
  · next hlong =>
    have hlong : 266 < run.length := hlong
    rw [Nat.min_eq_right hlong]
    rcases listen_cases gap (Config.maxRun + 1) (cutOverlong run) s with h | h | h | ⟨hh, h⟩
    · exact .inl h
    · exact .inr (.inl h)
    · exact .inr (.inr (.inl h))
    · exact .inr (.inr (.inr (.inl ⟨hh, hlong, h⟩)))
  · next hshort =>
    have hshort : run.length ≤ 266 := Nat.not_lt.mp hshort
    rw [Nat.min_eq_left (hshort.trans (by omega))]
    rcases listen_cases gap run.length judge s with h | h | h | ⟨hh, h⟩
    · exact .inl h
    · exact .inr (.inl h)
    · exact .inr (.inr (.inl h))
    · exact .inr (.inr (.inr (.inr ⟨hh, hshort, h⟩)))

theorem State.hears_iff {s : State} {gap : Nat} :
    s.hears gap = true ↔
      s.powered = true ∧ s.loop.discarding = false ∧ 266 ≤ (s.loop.byteTimes (max gap 1)).free := by
  simp only [State.hears, Bool.and_eq_true, Bool.not_eq_true', decide_eq_true_eq, and_assoc]
  rfl

/-- While loop-in discards, a run only lets its byte times pass (R4). -/
theorem arriveRun_discarding {s : State} (hp : s.powered = true) (hd : s.loop.discarding = true) (gap : Nat)
    (run : List Byte) (judge : State → State) : arriveRun gap run judge s = s.pass (min run.length 267) := by
  rcases arriveRun_cases gap run judge s with ⟨h, _⟩ | ⟨_, _, h⟩ | ⟨_, h, _⟩ | ⟨h, _⟩ | ⟨h, _⟩
  · simp [hp] at h
  · exact h
  · simp [hd] at h
  · simp [State.hears_iff, hd] at h
  · simp [State.hears_iff, hd] at h

/-- A run that begins with fewer than 266 bytes free is dropped whole (R4). -/
theorem arriveRun_dropped {s : State} {gap : Nat} (hp : s.powered = true) (hd : s.loop.discarding = false)
    (hf : (s.loop.byteTimes (max gap 1)).free < 266) (run : List Byte) (judge : State → State) :
    arriveRun gap run judge s = (s.pass (max gap 1 + min run.length 267)).raiseFraming.discardRun := by
  rcases arriveRun_cases gap run judge s with ⟨h, _⟩ | ⟨_, h, _⟩ | ⟨_, _, _, h⟩ | ⟨h, _⟩ | ⟨h, _⟩
  · simp [hp] at h
  · simp [hd] at h
  · exact h
  · exact absurd (State.hears_iff.mp h).2.2 (by omega)
  · exact absurd (State.hears_iff.mp h).2.2 (by omega)

/-- A run that loop-in receives is cut at its 267th byte (R4). -/
theorem arriveRun_overlong {s : State} {gap : Nat} {run : List Byte} (h : s.hears gap = true)
    (hr : 266 < run.length) (judge : State → State) :
    arriveRun gap run judge s = cutOverlong run (s.pass (max gap 1 + 267)) := by
  rw [arriveRun, if_pos (show Config.maxRun < run.length from hr), listen_hears h]
  rfl

/-- A run that loop-in receives is judged in the byte time of its last byte (R3). -/
theorem arriveRun_judged {s : State} {gap : Nat} {run : List Byte} (h : s.hears gap = true)
    (hr : run.length ≤ 266) (judge : State → State) :
    arriveRun gap run judge s = judge (s.pass (max gap 1 + run.length)) := by
  rw [arriveRun, if_neg (show ¬ Config.maxRun < run.length from Nat.not_lt.mpr hr), listen_hears h]

/-! ### Commands that bring a run (R6, R7) -/

theorem State.arriveBytes_of_ne {run : List Byte} (hr : run ≠ []) (s : State) (gap : Nat) :
    s.arriveBytes gap run = arriveRun gap run (fun t => t.judgeRun run) s := by
  cases run with
  | nil => exact absurd rfl hr
  | cons _ _ => rfl

/-- A run that is not correctly framed is a framing fault (R6). -/
theorem State.judgeRun_unframed {run : List Byte} (h : framed run = false) (s : State) :
    s.judgeRun run = s.raiseFraming.enqueue run 0 := by
  have : readParcel run = none := by
    rw [← Option.not_isSome_iff_eq_none, readParcel_isSome, h]
    simp
  simp [State.judgeRun, this]

theorem State.judgeRun_run {p : Parcel} (hp : p.payload.length ≤ 255) (c : Half) (s : State) :
    s.judgeRun (p.run c) = s.receive p c := by
  simp [State.judgeRun, readParcel_run c hp]

/-- A parcel's arrival is the arrival of its bytes. -/
theorem State.arriveParcel_eq_arriveBytes (s : State) (gap : Nat) (p : Parcel) (c : Half) :
    s.arriveParcel gap p c = s.arriveBytes gap (p.run c) := by
  have hne : p.run c ≠ [] := by rw [Parcel.run_eq]; exact List.cons_ne_nil _ _
  rw [State.arriveBytes_of_ne hne, State.arriveParcel, arriveRun, arriveRun]
  split
  · rfl
  · next hshort =>
    have hp : p.payload.length ≤ 255 := by
      simp only [Config.maxRun, Parcel.run_length] at hshort
      omega
    simp only [State.judgeRun_run hp]

/-- Every command at loop-in is the arrival of the bytes it brings. -/
theorem exec_brings_bytes {c : Instr} {gap : Nat} {run : List Byte} (h : c.brings = some (gap, run)) (s : State) :
    exec c s = .next (s.arriveBytes gap run) := by
  unfold Instr.brings at h
  split at h
  · obtain ⟨rfl, rfl⟩ := Prod.mk.inj (Option.some.inj h)
    rfl
  · obtain ⟨rfl, rfl⟩ := Prod.mk.inj (Option.some.inj h)
    rfl
  · obtain ⟨rfl, rfl⟩ := Prod.mk.inj (Option.some.inj h)
    exact congrArg _ (State.arriveParcel_eq_arriveBytes _ _ _ _)
  · obtain ⟨rfl, rfl⟩ := Prod.mk.inj (Option.some.inj h)
    exact congrArg _ (State.arriveParcel_eq_arriveBytes _ _ _ _)
  · obtain ⟨⟨_, p⟩, ha, hp⟩ := Option.map_eq_some_iff.mp h
    obtain ⟨rfl, rfl⟩ := Prod.mk.inj hp
    rw [exec_arrival ha]
    exact congrArg _ (State.arriveParcel_eq_arriveBytes _ _ _ _)

/-- A parcel with a wrong check word leaves with DAMAGED set and a right one (R7). -/
theorem State.receive_wrong {p : Parcel} {c : Half} (h : c ≠ p.check) (s : State) :
    s.receive p c = { s with tallies := s.tallies.raiseDamaged }.forward { p with damaged := true } := by
  rw [State.receive, if_pos h]

/-- A parcel with a right check word and DAMAGED set leaves as it arrived (R7). -/
theorem State.receive_damaged {p : Parcel} (h : p.damaged = true) (s : State) :
    s.receive p p.check = s.forward p := by
  simp [State.receive, h]

/-- A good parcel is Intake's (R7). -/
theorem State.receive_good {p : Parcel} (h : p.damaged = false) (s : State) :
    s.receive p p.check = s.intake p := by
  simp [State.receive, h]

end Sys2Proof.Machine

namespace Sys2Proof.Proofs

open Sys2Proof.Machine

/-- Settles O8, by what the arrival of a run comes to, whichever command brings it. -/
theorem runsThatAreNoParcel : Obligations.RunsThatAreNoParcel := by
  refine ⟨fun s gap hp hd hf => ?_, fun s gap run hh hr => ?_, fun s gap run hh hpos hr hframe => ?_,
    fun c s gap run hc hne hp hd hf => ?_⟩
  · have hrun : dropAtFirstByte gap s = (s.pass (max gap 1 + 1)).raiseFraming.discardRun := by
      simp only [dropAtFirstByte, State.pass_loop, Config.maxRun, hp, hd, hf, if_true, Bool.true_eq_false,
        Bool.false_eq_true, if_false]
    exact congrArg _ hrun
  · have hne : run ≠ [] := List.ne_nil_of_length_pos (by omega)
    have harrive := State.arriveBytes_of_ne hne s gap
    rw [arriveRun_overlong hh hr] at harrive
    exact congrArg _ harrive
  · have harrive := State.arriveBytes_of_ne (List.ne_nil_of_length_pos hpos) s gap
    rw [arriveRun_judged hh hr, State.judgeRun_unframed hframe] at harrive
    exact congrArg _ harrive
  · rw [exec_brings_bytes hc, State.arriveBytes_of_ne hne, arriveRun_dropped hp hd hf]
    rfl

/-- Settles O9: every command at loop-in is the arrival of its run, which loop-in discards. -/
theorem discardingLastsUntilLfiFalls : Obligations.DiscardingLastsUntilLfiFalls := by
  refine fun s hp hd => ⟨fun n => ?_, fun c gap run hc hne => ?_, fun gap => ?_⟩
  · simp [exec, execLfiFalls, lfiFall, hp, hd, State.pass]
  · rw [exec_brings_bytes hc, State.arriveBytes_of_ne hne, arriveRun_discarding hp hd]
    rfl
  · simp [exec, execRunDropped, dropAtFirstByte, hp, hd, State.pass]

/-- Settles O10, by the three cases of R7. -/
theorem damagedParcelsAreNeverTaken : Obligations.DamagedParcelsAreNeverTaken := by
  refine fun s gap p hh hl => ⟨fun check hc => ?_, ?_, fun hd => ?_⟩
  · have harrive := State.arriveParcel_heard (c := check) hh hl
    rw [State.receive_wrong hc] at harrive
    exact congrArg _ harrive
  · have harrive := State.arriveParcel_heard (p := { p with damaged := true })
      (c := Parcel.check { p with damaged := true }) hh hl
    rw [State.receive_damaged rfl] at harrive
    exact congrArg _ harrive
  · exact congrArg _ (State.arrive_heard hh hl hd)

/-- Settles O20, the tallies disposition by disposition. -/
theorem answersToAParcel : Obligations.AnswersToAParcel := by
  refine ⟨fun _ _ _ => rfl, fun t d => ?_, fun s p hp => ?_, fun s p hp => ?_⟩
  · cases d <;> exact ⟨by decide, by decide, rfl⟩
  · have : p.broadcast = false := by simpa [Parcel.broadcast] using hp
    simp [State.acknowledge, this]
  · have : p.broadcast = true := by simpa [Parcel.broadcast] using hp
    simp [State.acknowledge, this, State.forward, State.enqueue]

end Sys2Proof.Proofs
end

section
/-! PROOFS. Filling a sweep (R12 to R14, R156, R157): the items, their slots, and what filling keeps. -/

set_option Elab.async false

namespace Sys2Proof.Machine

/-! ### The next item (R156) -/

/-- Carrying a fault record changes its carrying number alone. -/
theorem carryFault_keeps {n : Byte} {fs fs' : List FaultRecord} {f : FaultRecord}
    (h : carryFault n fs = some (f, fs')) :
    fs'.map (fun x => (x.cause, x.lostBefore)) = fs.map (fun x => (x.cause, x.lostBefore)) := by
  induction fs generalizing fs' with
  | nil => simp [carryFault] at h
  | cons x fs ih =>
    cases hx : x.carrying with
    | none =>
      simp only [carryFault, hx, Option.some.injEq, Prod.mk.injEq] at h
      obtain ⟨rfl, rfl⟩ := h
      rfl
    | some c =>
      simp only [carryFault, hx, Option.map_eq_some_iff, Prod.mk.injEq] at h
      obtain ⟨⟨g, gs⟩, hg, rfl, rfl⟩ := h
      simp [ih hg]

/-- The reply entry to carry is one of the queue's, and carrying it changes its carrying number alone. -/
theorem carryReply_keeps {n : Byte} {es es' : List ReplyEntry} {e : ReplyEntry}
    (h : carryReply n es = some (e, es')) :
    e ∈ es ∧ es'.map (fun x => (x.tag, x.body)) = es.map (fun x => (x.tag, x.body)) := by
  induction es generalizing es' with
  | nil => simp [carryReply] at h
  | cons x es ih =>
    cases hx : x.carrying with
    | none =>
      simp only [carryReply, hx, Option.some.injEq, Prod.mk.injEq] at h
      obtain ⟨rfl, rfl⟩ := h
      exact ⟨List.mem_cons_self, rfl⟩
    | some c =>
      simp only [carryReply, hx, Option.map_eq_some_iff, Prod.mk.injEq] at h
      obtain ⟨⟨g, gs⟩, hg, rfl, rfl⟩ := h
      obtain ⟨hmem, hmap⟩ := ih hg
      exact ⟨List.mem_cons_of_mem _ hmem, by simp [hmap]⟩

/-- The item placed is the attention report, else a fault record, else a reply entry (R156). -/
theorem ReplyUnit.place_cases {r r' : ReplyUnit} {n : Byte} {item : Item} (h : r.place n = some (item, r')) :
    (item = .attention ∧ r' = { r with attention := .carried n false })
    ∨ (∃ f faults, carryFault n r.faults = some (f, faults) ∧ item = .fault f ∧ r' = { r with faults := faults })
    ∨ (∃ e queue, carryReply n r.queue = some (e, queue) ∧ item = .reply e ∧ r' = { r with queue := queue }) := by
  unfold ReplyUnit.place at h
  split at h
  · obtain ⟨rfl, rfl⟩ := Prod.mk.inj (Option.some.inj h)
    exact .inl ⟨rfl, rfl⟩
  · split at h
    · next f faults hf =>
      obtain ⟨rfl, rfl⟩ := Prod.mk.inj (Option.some.inj h)
      exact .inr (.inl ⟨f, faults, hf, rfl, rfl⟩)
    · split at h
      · next e queue he =>
        obtain ⟨rfl, rfl⟩ := Prod.mk.inj (Option.some.inj h)
        exact .inr (.inr ⟨e, queue, he, rfl, rfl⟩)
      · simp at h

/-- Two reply units hold the same reply entries, fault records and reservations, whatever is CARRIED. -/
def ReplyUnit.SameItems (r r' : ReplyUnit) : Prop :=
  r'.queue.map (fun x => (x.tag, x.body)) = r.queue.map (fun x => (x.tag, x.body))
  ∧ r'.faults.map (fun x => (x.cause, x.lostBefore)) = r.faults.map (fun x => (x.cause, x.lostBefore))
  ∧ r'.reservations = r.reservations

theorem ReplyUnit.SameItems.refl (r : ReplyUnit) : r.SameItems r := ⟨rfl, rfl, rfl⟩

theorem ReplyUnit.SameItems.trans {r r' r'' : ReplyUnit} (h : r.SameItems r') (h' : r'.SameItems r'') :
    r.SameItems r'' :=
  ⟨h'.1.trans h.1, h'.2.1.trans h.2.1, h'.2.2.trans h.2.2⟩

/-- Placing an item keeps every reply entry, fault record and reservation (R154). -/
theorem ReplyUnit.place_sameItems {r r' : ReplyUnit} {n : Byte} {item : Item} (h : r.place n = some (item, r')) :
    r.SameItems r' := by
  rcases ReplyUnit.place_cases h with ⟨_, rfl⟩ | ⟨f, faults, hf, _, rfl⟩ | ⟨e, queue, he, _, rfl⟩
  · exact ⟨rfl, rfl, rfl⟩
  · exact ⟨rfl, carryFault_keeps hf, rfl⟩
  · exact ⟨(carryReply_keeps he).2, rfl, rfl⟩

/-- The data of every reply entry fits a slot (R14). -/
def ReplyUnit.DataFits (r : ReplyUnit) : Prop := ∀ x ∈ r.queue, x.body.data.length ≤ 32

theorem ReplyUnit.SameItems.dataFits {r r' : ReplyUnit} (h : r.SameItems r') (hr : r.DataFits) : r'.DataFits := by
  intro x hx
  have hmem : (x.tag, x.body) ∈ r.queue.map (fun y => (y.tag, y.body)) :=
    h.1 ▸ List.mem_map.mpr ⟨x, hx, rfl⟩
  obtain ⟨y, hy, hyx⟩ := List.mem_map.mp hmem
  rw [← (Prod.mk.inj hyx).2]
  exact hr y hy

/-! ### Slots (R12, R157) -/

theorem slotBytes_length (rkind : BitVec 3) (status : Status) (node : BitVec 5) (tag : Byte) {data : List Byte}
    (h : data.length ≤ 32) : (slotBytes rkind status node tag data).length = 36 := by
  simp [slotBytes]
  omega

/-- Bit 7 of byte 0 is FILLED (R12). -/
theorem filled_msb : ∀ (rkind : BitVec 3) (code : BitVec 4), (1#1 ++ rkind ++ code : Byte).msb = true := by
  decide

theorem Item.slot_filled (node : BitVec 5) (item : Item) : ((item.slot node).getD 0 0#8).msb = true := by
  cases item <;> exact filled_msb _ _

@[simp] theorem FaultRecord.data_length (f : FaultRecord) : f.data.length = 8 := by
  obtain ⟨cause, lost, carrying⟩ := f
  cases cause <;> rfl

/-- A slot that an item is placed in is 36 bytes long where the reply data fits. -/
theorem ReplyUnit.place_slot_length {r r' : ReplyUnit} {n : Byte} {item : Item} (h : r.place n = some (item, r'))
    (hr : r.DataFits) (node : BitVec 5) : (item.slot node).length = 36 := by
  rcases ReplyUnit.place_cases h with ⟨rfl, _⟩ | ⟨f, faults, hf, rfl, _⟩ | ⟨e, queue, he, rfl, _⟩
  · exact slotBytes_length _ _ _ _ (Nat.zero_le _)
  · exact slotBytes_length _ _ _ _ (by simp)
  · exact slotBytes_length _ _ _ _ (hr e (carryReply_keeps he).1)

/-! ### The fill stage (R156) -/

theorem fillSlots_filled {bytes : List Byte} (h : (bytes.headD 0#8).msb = true) (node : BitVec 5) (n : Byte) (k : Nat)
    (r : ReplyUnit) : fillSlots node n (k + 1) bytes r =
      (bytes.take 36 ++ (fillSlots node n k (bytes.drop 36) r).1, (fillSlots node n k (bytes.drop 36) r).2) := by
  rw [fillSlots, if_pos h]

theorem fillSlots_placed {bytes : List Byte} {n : Byte} {r r' : ReplyUnit} {item : Item}
    (h : (bytes.headD 0#8).msb = false) (hp : r.place n = some (item, r')) (node : BitVec 5) (k : Nat) :
    fillSlots node n (k + 1) bytes r =
      (item.slot node ++ (fillSlots node n k (bytes.drop 36) r').1, (fillSlots node n k (bytes.drop 36) r').2.1,
        (fillSlots node n k (bytes.drop 36) r').2.2 + 1) := by
  simp only [fillSlots, h, hp, Bool.false_eq_true, if_false]

theorem fillSlots_exhausted {bytes : List Byte} {n : Byte} {r : ReplyUnit}
    (h : (bytes.headD 0#8).msb = false) (hp : r.place n = none) (node : BitVec 5) (k : Nat) :
    fillSlots node n (k + 1) bytes r = (bytes, r, 0) := by
  simp only [fillSlots, h, hp, Bool.false_eq_true, if_false]

/-- Filling keeps every reply entry, fault record and reservation (R154). -/
theorem fillSlots_sameItems (node : BitVec 5) (n : Byte) (k : Nat) (bytes : List Byte) (r : ReplyUnit) :
    r.SameItems (fillSlots node n k bytes r).2.1 := by
  induction k generalizing bytes r with
  | zero => exact .refl r
  | succ k ih =>
    cases hb : (bytes.headD 0#8).msb with
    | true => rw [fillSlots_filled hb]; exact ih _ _
    | false =>
      cases hp : r.place n with
      | none => rw [fillSlots_exhausted hb hp]; exact .refl r
      | some next =>
        rw [fillSlots_placed hb hp]
        exact (ReplyUnit.place_sameItems hp).trans (ih _ _)

/-- Slot `i` of a payload. -/
def slotAt (bytes : List Byte) (i : Nat) : List Byte := (bytes.drop (36 * i)).take 36

/-- Slot `i` of a payload is FILLED. -/
def slotFilled (bytes : List Byte) (i : Nat) : Bool := (bytes.getD (36 * i) 0#8).msb

theorem slotAt_append_zero {slot : List Byte} (h : slot.length = 36) (rest : List Byte) :
    slotAt (slot ++ rest) 0 = slot := by
  simp [slotAt, ← h]

theorem slotAt_append_succ {slot : List Byte} (h : slot.length = 36) (rest : List Byte) (i : Nat) :
    slotAt (slot ++ rest) (i + 1) = slotAt rest i := by
  rw [slotAt, slotAt, show 36 * (i + 1) = slot.length + 36 * i by omega, List.drop_length_add_append]

theorem slotFilled_append_zero {slot : List Byte} (h : slot.length = 36) (rest : List Byte) :
    slotFilled (slot ++ rest) 0 = (slot.getD 0 0#8).msb := by
  rw [slotFilled, List.getD_append _ _ _ _ (by omega)]

theorem slotFilled_append_succ {slot : List Byte} (h : slot.length = 36) (rest : List Byte) (i : Nat) :
    slotFilled (slot ++ rest) (i + 1) = slotFilled rest i := by
  rw [slotFilled, slotFilled, List.getD_append_right _ _ _ _ (by omega)]
  congr 2
  omega

/-- What filling does slot by slot: a FILLED slot leaves as it arrived, an empty one is filled or leaves as it arrived, and
`count` slots are filled. -/
def FillsSlots (k : Nat) (bytes out : List Byte) (count : Nat) : Prop :=
  out.length = bytes.length
  ∧ (∀ i < k, slotFilled bytes i = true ∧ slotAt out i = slotAt bytes i
      ∨ slotFilled bytes i = false ∧ slotFilled out i = true
      ∨ slotFilled bytes i = false ∧ slotAt out i = slotAt bytes i)
  ∧ count = (List.range k).countP (fun i => !slotFilled bytes i && slotFilled out i)

/-- A payload left as it arrived fills no slot. -/
theorem FillsSlots.unchanged (k : Nat) (bytes : List Byte) : FillsSlots k bytes bytes 0 := by
  refine ⟨rfl, fun i _ => ?_, ?_⟩
  · cases h : slotFilled bytes i <;> simp
  · simp

/-- One slot more in front, FILLED on arrival and left, or empty and filled. -/
theorem FillsSlots.cons {k count : Nat} {slot slot' bytes out : List Byte} (h : FillsSlots k bytes out count)
    (hs : slot.length = 36) (hs' : slot'.length = 36)
    (hc : (slot.getD 0 0#8).msb = true ∧ slot' = slot
      ∨ (slot.getD 0 0#8).msb = false ∧ (slot'.getD 0 0#8).msb = true) :
    FillsSlots (k + 1) (slot ++ bytes) (slot' ++ out) (if (slot.getD 0 0#8).msb then count else count + 1) := by
  obtain ⟨hlen, hslots, hcount⟩ := h
  refine ⟨by simp [hlen, hs, hs'], fun i hi => ?_, ?_⟩
  · cases i with
    | zero =>
      rw [slotFilled_append_zero hs, slotFilled_append_zero hs', slotAt_append_zero hs, slotAt_append_zero hs']
      rcases hc with hc | hc
      · exact .inl hc
      · exact .inr (.inl hc)
    | succ i =>
      rw [slotFilled_append_succ hs, slotFilled_append_succ hs', slotAt_append_succ hs, slotAt_append_succ hs']
      exact hslots i (Nat.lt_of_succ_lt_succ hi)
  · rw [List.range_succ_eq_map, List.countP_cons, List.countP_map, slotFilled_append_zero hs,
      slotFilled_append_zero hs']
    simp only [Function.comp_def, slotFilled_append_succ hs, slotFilled_append_succ hs', ← hcount]
    rcases hc with ⟨hf, rfl⟩ | ⟨he, hf⟩
    · simp only [hf, if_true]; rfl
    · simp only [he, hf]; rfl

theorem fillSlots_fills (node : BitVec 5) (n : Byte) (k : Nat) {bytes : List Byte} {r : ReplyUnit}
    (hb : bytes.length = 36 * k) (hr : r.DataFits) :
    FillsSlots k bytes (fillSlots node n k bytes r).1 (fillSlots node n k bytes r).2.2 := by
  induction k generalizing bytes r with
  | zero => exact .unchanged 0 bytes
  | succ k ih =>
    have hhead : (bytes.take 36).length = 36 := by simp; omega
    have htail : (bytes.drop 36).length = 36 * k := by simp; omega
    have hfirst : ((bytes.take 36).getD 0 0#8) = bytes.headD 0#8 := by cases bytes <;> rfl
    have hsplit := List.take_append_drop 36 bytes
    cases hf : (bytes.headD 0#8).msb with
    | true =>
      rw [fillSlots_filled hf]
      have := (ih htail hr).cons hhead hhead (.inl ⟨by rw [hfirst, hf], rfl⟩)
      rwa [hsplit, hfirst, hf] at this
    | false =>
      cases hp : r.place n with
      | none =>
        rw [fillSlots_exhausted hf hp]
        exact .unchanged (k + 1) bytes
      | some next =>
        obtain ⟨item, r'⟩ := next
        rw [fillSlots_placed hf hp]
        have hslot := ReplyUnit.place_slot_length hp hr node
        have := (ih htail ((ReplyUnit.place_sameItems hp).dataFits hr)).cons hhead hslot
          (.inr ⟨by rw [hfirst, hf], item.slot_filled node⟩)
        rwa [hsplit, hfirst, hf] at this

/-! ### The 36 bytes of a slot as numbers (R12, R157) -/

/-- The STATUS codes of R13. -/
def StatusCodes (code : Status → Nat) : Prop :=
  code .ok = 0 ∧ code .busError = 1 ∧ code .grantTimeout = 2 ∧ code .waitTimeout = 3 ∧ code .grantLost = 4
    ∧ code .abandoned = 5

theorem StatusCodes.code_eq {code : Status → Nat} (h : StatusCodes code) (st : Status) :
    code st = st.code.toNat := by
  obtain ⟨h0, h1, h2, h3, h4, h5⟩ := h
  cases st <;> assumption

/-- A slot's first bytes as numbers. -/
theorem slotBytes_eq (rkind : BitVec 3) (st : Status) (node : BitVec 5) (tag : Byte) (data : List Byte) :
    slotBytes rkind st node tag data =
      [BitVec.ofNat 8 (128 + 16 * rkind.toNat + st.code.toNat), BitVec.ofNat 8 (8 * node.toNat), tag,
        BitVec.ofNat 8 data.length] ++ data ++ List.replicate (32 - data.length) 0#8 := by
  have hfirst : (1#1 ++ rkind ++ st.code : Byte) = BitVec.ofNat 8 (128 + 16 * rkind.toNat + st.code.toNat) := by
    apply BitVec.eq_of_toNat_eq
    have := rkind.isLt
    have := st.code.isLt
    simp only [toNat_append_add, BitVec.toNat_ofNat]
    omega
  have hnode : (node ++ 0#3 : Byte) = BitVec.ofNat 8 (8 * node.toNat) := by
    apply BitVec.eq_of_toNat_eq
    have := node.isLt
    simp only [toNat_append_add, BitVec.toNat_ofNat]
    omega
  rw [slotBytes, hfirst, hnode]

/-- Byte 4 of a COMMIT-DONE's data is the STATUS code (R14). -/
theorem statusByte_eq (st : Status) : (0#4 ++ st.code : Byte) = BitVec.ofNat 8 st.code.toNat := by
  cases st <;> rfl

theorem wordBytes_eq (w : Word) : wordBytes w =
    [BitVec.ofNat 8 (w.toNat / 2 ^ 24), BitVec.ofNat 8 (w.toNat / 2 ^ 16), BitVec.ofNat 8 (w.toNat / 2 ^ 8),
      BitVec.ofNat 8 w.toNat] := by
  simp only [wordBytes, List.cons.injEq, and_true]
  refine ⟨?_, ?_, ?_, ?_⟩ <;> exact BitVec.eq_of_toNat_eq (by simp [Nat.shiftRight_eq_div_pow])

/-- The data of a POSTED-WRITE-FAILED record, its local address byte by byte (R14). -/
theorem FaultRecord.data_posted (st : Status) (tag : Byte) (address : Word) (beat lost : Nat) (carrying : Option Byte) :
    FaultRecord.data ⟨.postedWriteFailed st tag address beat, lost, carrying⟩ =
      [1#8, BitVec.ofNat 8 beat, BitVec.ofNat 8 (address.toNat / 2 ^ 24), BitVec.ofNat 8 (address.toNat / 2 ^ 16),
        BitVec.ofNat 8 (address.toNat / 2 ^ 8), BitVec.ofNat 8 address.toNat, BitVec.ofNat 8 lost, 0#8] := by
  simp only [FaultRecord.data, wordBytes_eq, List.cons_append, List.nil_append]

end Sys2Proof.Machine

namespace Sys2Proof.Proofs

open Sys2Proof.Machine

/-- Settles O34: the fill stage by induction on the slots left, and each kind of item by its slot's bytes. -/
theorem fillKeepsTheSweepWhole : Obligations.FillKeepsTheSweepWhole := by
  refine ⟨?_, ?_, ?_⟩
  · rintro node n k bytes r out hb hr rfl
    obtain ⟨hlen, hslots, hcount⟩ := fillSlots_fills node n k hb hr
    exact ⟨hlen, hslots, hcount, fillSlots_sameItems node n k bytes r⟩
  · exact fun node n k bytes r => ⟨rfl, fun h => fillSlots_filled h node n k r,
      fun h => ⟨fun item r' hp => fillSlots_placed h hp node k, fun hp => fillSlots_exhausted h hp node k⟩⟩
  · intro node tag st data w f a beat lost first address carrying code row hcode hrow
    have hcode := StatusCodes.code_eq hcode
    simp only [hrow, hcode]
    have slot := slotBytes_eq (node := node)
    refine ⟨slot _ _ _ _, slot _ _ _ _, slot _ _ _ _, slot _ _ _ _, ?_, slot _ _ _ _, ?_, slot _ _ _ _, slot _ _ _ _⟩
    · rw [← statusByte_eq]
      exact slot _ _ _ _
    · rw [← FaultRecord.data_posted st tag address beat lost carrying]
      exact slot _ _ _ _

end Sys2Proof.Proofs
end

section
/-! PROOFS. What one step can do to the node, said once: every later invariant is a case analysis over `Happening`. -/

set_option Elab.async false

namespace Sys2Proof.Machine

/-- What a step does to the node, the queue of commands apart. -/
inductive Happening (s : State) : State → Prop where
  /-- Nothing: the part is held in power-on reset, or nothing applies. -/
  | stays : Happening s s
  /-- Byte times pass at the loop port (R1, R3). -/
  | passes (n : Nat) : Happening s (s.pass n)
  /-- A run being discarded ends (R4). -/
  | discardingEnds (n : Nat) : Happening s { s.pass n with loop := { (s.pass n).loop with discarding := false } }
  /-- A run is dropped whole (R4). -/
  | drops (n : Nat) : Happening s (s.pass n).raiseFraming.discardRun
  /-- An overlong run is cut (R4). -/
  | cuts (gap : Nat) (run : List Byte) (hears : s.hears gap = true) (long : 266 < run.length) :
      Happening s (cutOverlong run (s.pass (max gap 1 + 267)))
  /-- A run is not correctly framed (R6). -/
  | misframed (gap : Nat) (run : List Byte) (hears : s.hears gap = true) (short : run.length ≤ 266) :
      Happening s ((s.pass (max gap 1 + run.length)).raiseFraming.enqueue run 0)
  /-- A parcel with a wrong check word is marked DAMAGED (R7). -/
  | marksDamaged (gap : Nat) (p : Parcel) (hears : s.hears gap = true) (fits : p.payload.length ≤ 255) :
      Happening s
        ({ s.heard gap p with tallies := (s.heard gap p).tallies.raiseDamaged }.forward { p with damaged := true })
  /-- A parcel is forwarded untouched (R7, R38, R39). -/
  | forwards (gap : Nat) (p : Parcel) (hears : s.hears gap = true) (fits : p.payload.length ≤ 255) :
      Happening s ((s.heard gap p).forward p)
  /-- A unicast is refused (R39). -/
  | refuses (gap : Nat) (p : Parcel) (d : Disposition) (hears : s.hears gap = true) (fits : p.payload.length ≤ 255) :
      Happening s ((s.heard gap p).dispose d p)
  /-- A NUMBER with v of 31 or more (R27). -/
  | unnumbers (gap : Nat) (p : Parcel) (hears : s.hears gap = true) (fits : p.payload.length ≤ 255) :
      Happening s
        ({ s.heard gap p with loop := { (s.heard gap p).loop with loopState := .unnumbered } }.forward p)
  /-- A broadcast is taken (R22). -/
  | takesBroadcast (gap : Nat) (p : Parcel) (hears : s.hears gap = true) (fits : p.payload.length ≤ 255)
      (owns : (s.heard gap p).owns p = true) (taken : (s.heard gap p).judge p = .taken)
      (numbers : p.work.unnumbers = false) (broadcast : p.broadcast = true) :
      Happening s
        (((s.heard gap p).handOn p.tag p.work).forward { (s.heard gap p).rewritten p with mark := p.mark + 1 })
  /-- A unicast is taken (R20, R57). -/
  | takesUnicast (gap : Nat) (p : Parcel) (hears : s.hears gap = true) (fits : p.payload.length ≤ 255)
      (owns : (s.heard gap p).owns p = true) (taken : (s.heard gap p).judge p = .taken)
      (numbers : p.work.unnumbers = false) (unicast : p.broadcast = false) :
      Happening s (((s.heard gap p).handOn p.tag p.work).dispose .taken p)
  /-- Power-on reset ends (R34). -/
  | powersOn (lrstHigh lfiHigh : Bool) : Happening s (s.powerOn lrstHigh lfiHigh)
  /-- A supply is lost (R34). -/
  | powerFails : Happening s s.powerFail
  /-- An entry is issued (R82). -/
  | issues (k : Nat) (e : Entry) (powered : s.powered = true) (idle : s.executor = .idle) (permits : s.gate.permits = true)
      (oldest : oldestReady s.journal = some k) (entry : s.journal[k]? = some e) : Happening s (s.issueAt k e)
  /-- An edge in REQUESTING (R126). -/
  | requestEdge (op : Operation) (lgnt : Bool) (powered : s.powered = true) (executor : s.executor = .requesting op) :
      Happening s (s.requestEdge op lgnt)
  /-- An edge in TRANSFERRING (R127). -/
  | beatEdge (op : Operation) (lgnt lerr lwait : Bool) (ld : BitVec 64) (powered : s.powered = true)
      (executor : s.executor = .transferring op) : Happening s (s.beatEdge op lgnt lerr lwait ld)
  /-- LRST# falls (R134). -/
  | lrstFalls (powered : s.powered = true) (high : s.lrstLow = false) :
      Happening s { s.localResetSequence with lrstLow := true }
  /-- LRST# rises and the executor leaves RESET (R136). -/
  | lrstRises (powered : s.powered = true) (low : s.lrstLow = true) (held : s.localHeld = true) :
      Happening s ({ s with lrstLow := false }.enter .idle)
  /-- LRST# rises while the executor is not in RESET. -/
  | lrstRisesUnheld (powered : s.powered = true) (low : s.lrstLow = true) (free : s.localHeld = false) :
      Happening s { s with lrstLow := false }
  /-- ATTN rises (R168). -/
  | attnRises (powered : s.powered = true) :
      Happening s { s with replies := { s.replies with attention := s.replies.attention.rise } }

/-- Intake of a parcel that loop-in has received. -/
theorem Happening.of_intake {s : State} {gap : Nat} {p : Parcel} (hears : s.hears gap = true)
    (fits : p.payload.length ≤ 255) : Happening s ((s.heard gap p).intake p) := by
  cases ho : (s.heard gap p).owns p with
  | false => rw [State.intake_foreign ho]; exact .forwards gap p hears fits
  | true =>
    by_cases hj : (s.heard gap p).judge p = .taken
    · rw [State.intake_taken ho hj]
      split
      · exact .unnumbers gap p hears fits
      · next hn =>
        have hn : p.work.unnumbers = false := by simpa using hn
        split
        · next hb => exact .takesBroadcast gap p hears fits ho hj hn hb
        · next hb => exact .takesUnicast gap p hears fits ho hj hn (by simpa using hb)
    · rw [State.intake_refused ho hj]
      split
      · exact .forwards gap p hears fits
      · exact .refuses gap p _ hears fits

/-- A parcel that loop-in has received, with the check word it carries. -/
theorem Happening.of_receive {s : State} {gap : Nat} {p : Parcel} (hears : s.hears gap = true)
    (fits : p.payload.length ≤ 255) (c : Half) : Happening s ((s.heard gap p).receive p c) := by
  by_cases hc : c = p.check
  · subst hc
    cases hd : p.damaged with
    | false => rw [State.receive_good hd]; exact .of_intake hears fits
    | true => rw [State.receive_damaged hd]; exact .forwards gap p hears fits
  · rw [State.receive_wrong hc]
    exact .marksDamaged gap p hears fits

/-- The arrival of a run of bytes. -/
theorem Happening.of_arriveBytes (s : State) (gap : Nat) (run : List Byte) : Happening s (s.arriveBytes gap run) := by
  by_cases hne : run = []
  · subst hne; exact .stays
  rw [State.arriveBytes_of_ne hne]
  rcases arriveRun_cases gap run (fun t => t.judgeRun run) s with
    ⟨_, h⟩ | ⟨_, _, h⟩ | ⟨_, _, _, h⟩ | ⟨hh, hr, h⟩ | ⟨hh, hr, h⟩ <;> rw [h]
  · exact .stays
  · exact .passes _
  · exact .drops _
  · exact .cuts gap run hh hr
  · cases hread : readParcel run with
    | none =>
      have hjudge : ∀ t : State, t.judgeRun run = t.raiseFraming.enqueue run 0 := fun t => by
        simp [State.judgeRun, hread]
      rw [hjudge]
      exact .misframed gap run hh hr
    | some pc =>
      obtain ⟨p, c⟩ := pc
      obtain ⟨rfl, fits⟩ := run_of_readParcel hread
      rw [State.judgeRun_run fits, Parcel.run_length]
      exact .of_receive hh fits c

/-- An edge of LCLK (R125). -/
theorem Happening.of_edge (s : State) (lgnt lerr lwait : Bool) (ld : BitVec 64) :
    Happening s (s.edge lgnt lerr lwait ld) := by
  rcases s.edge_cases lgnt lerr lwait ld with h | ⟨op, hp, he, h⟩ | ⟨op, hp, he, h⟩ <;> rw [h]
  · exact .stays
  · exact .requestEdge op lgnt hp he
  · exact .beatEdge op lgnt lerr lwait ld hp he

theorem Happening.of_takeIssue (s : State) : Happening s s.takeIssue := by
  rcases s.takeIssue_cases with h | ⟨k, e, hp, hi, hg, ho, he, h⟩ <;> rw [h]
  · exact .stays
  · exact .issues k e hp hi hg ho he

theorem Happening.of_dropAtFirstByte (s : State) (gap : Nat) : Happening s (dropAtFirstByte gap s) := by
  unfold dropAtFirstByte
  split
  · exact .stays
  · split
    · exact .passes 1
    · split
      · exact .drops _
      · exact .stays

theorem Happening.of_lfiFall (s : State) (n : Nat) : Happening s (lfiFall n s) := by
  unfold lfiFall
  split
  · exact .discardingEnds n
  · exact .stays

theorem Happening.of_sendNext (s : State) : Happening s { s with loop := s.loop.sendNext } := by
  unfold LoopPort.sendNext
  split
  · exact .stays
  · exact .passes _

/-- Whatever command is executed, what it does is a happening. -/
theorem exec_happening {c : Instr} {s t : State} (h : exec c s = .next t) : Happening s t := by
  have bytes : ∀ {gap run}, c.brings = some (gap, run) → Happening s t := fun hc => by
    rw [exec_brings_bytes hc] at h
    obtain rfl := Host.Outcome.next.inj h
    exact .of_arriveBytes s _ _
  have next : ∀ {u}, exec c s = .next u → Happening s u → Happening s t := fun hu hs => by
    rw [hu] at h
    exact Host.Outcome.next.inj h ▸ hs
  cases c with
  | powerOn lrstHigh lfiHigh => exact next rfl (.powersOn _ _)
  | supplyBelowRange => exact next rfl .powerFails
  | runDropped gap => exact next rfl (.of_dropAtFirstByte s gap)
  | lfiFalls n => exact next rfl (.of_lfiFall s n)
  | parcelSend =>
    refine next rfl ?_
    split
    · exact .of_sendNext s
    · exact .stays
  | issue => exact next rfl (.of_takeIssue s)
  | grant | beatDone | completion | grantTimeout | waitTimeout | grantLost | busError | grantWaitEdge | beatStretched =>
    exact next rfl (.of_edge s _ _ _ _)
  | lrstFall =>
    simp only [exec, execLrstFall] at h
    split at h
    · exact Host.Outcome.next.inj h ▸ .stays
    · split at h
      · cases h
      · next hp hl => exact Host.Outcome.next.inj h ▸ .lrstFalls (by simpa using hp) (by simpa using hl)
  | lrstRise =>
    simp only [exec, execLrstRise] at h
    split at h
    · exact Host.Outcome.next.inj h ▸ .stays
    · next hp =>
      have hp : s.powered = true := by simpa using hp
      split at h
      · next hl =>
        split at h
        · next hx => exact Host.Outcome.next.inj h ▸ .lrstRises hp hl hx
        · next hx => exact Host.Outcome.next.inj h ▸ .lrstRisesUnheld hp hl (by simpa using hx)
      · cases h
  | attnRise =>
    refine next rfl ?_
    split
    · next hp => exact .attnRises hp
    · exact .stays
  | _ => exact bytes rfl

/-- Every step is a happening on the state with the front command taken off the queue. -/
theorem step_happening {s t : State} (h : step s = .next t) : Happening { s with pending := s.pending.tail } t := by
  unfold step at h
  split at h
  · next hq =>
    obtain rfl := Host.Outcome.next.inj h
    have hs : { s with pending := s.pending.tail } = s := by rw [hq, List.tail_nil, ← hq]
    rw [hs, tick]
    split
    · exact .passes 1
    · exact .stays
  · next c rest hq =>
    rw [hq, List.tail_cons]
    exact exec_happening h

end Sys2Proof.Machine
end

section
/-! PROOFS. The laws of translation and transfer through the named operations: translation, the words of a control WRITE,
the beats of an operation, its end, the sweep (R14, R63, R71, R75, R120, R123). -/

set_option Elab.async false

namespace Sys2Proof.Machine

/-! ### What the laws look at -/

/-- The laws of transfer look at the window table, the journal, the executor and the reply queue alone. -/
theorem State.transferLaws.congr {s t : State} (h : s.transferLaws) (hw : t.windows = s.windows)
    (hj : t.journal = s.journal) (he : t.executor = s.executor) (hq : t.replies.queue = s.replies.queue) :
    t.transferLaws := by
  simpa only [State.transferLaws, State.activeBankLaw, State.rangeLaw, State.operationLaw, State.dataLaw, hw, hj, he, hq]
    using h

theorem State.operationLaw_idle {s : State} (h : s.executor = .idle) : s.operationLaw := by
  simp [State.operationLaw, h]

theorem State.operationLaw_reset {s : State} (h : s.executor = .reset) : s.operationLaw := by
  simp [State.operationLaw, h]

/-! ### Reply data (R14, R151) -/

theorem ReplyBody.commitDone_data_length (st : Status) (w f a : Nat) (first : Option (Byte × Status)) :
    (ReplyBody.commitDone st w f a first).data.length = 5 := by
  cases first <;> rfl

theorem Group.doneBody_data_length (r : Group) (st : Status) (a : Nat) : (r.doneBody st a).data.length = 5 :=
  ReplyBody.commitDone_data_length _ _ _ _ _

/-- A reply whose data fits a slot joins the queue. -/
theorem ReplyUnit.DataFits.append {r r' : ReplyUnit} {tag : Byte} {body : ReplyBody} (h : r.DataFits)
    (hb : body.data.length ≤ 32) (hq : r'.queue = r.queue ++ [⟨tag, body, none⟩]) : r'.DataFits := by
  intro x hx
  rw [hq, List.mem_append, List.mem_singleton] at hx
  rcases hx with hx | rfl
  · exact h x hx
  · exact hb

theorem State.queueReply_transferLaws {s : State} (h : s.transferLaws) (tag : Byte) {body : ReplyBody}
    (hb : body.data.length ≤ 32) : (s.queueReply tag body).transferLaws := by
  obtain ⟨hbank, hrange, hop, hdata⟩ := h
  exact ⟨hbank, hrange, hop, ReplyUnit.DataFits.append hdata hb rfl⟩

theorem State.convertReply_transferLaws {s : State} (h : s.transferLaws) (tag : Byte) {body : ReplyBody}
    (hb : body.data.length ≤ 32) : (s.convertReply tag body).transferLaws := by
  obtain ⟨hbank, hrange, hop, hdata⟩ := h
  exact ⟨hbank, hrange, hop, ReplyUnit.DataFits.append hdata hb rfl⟩

/-! ### The journal (R63, R75) -/

/-- The law of local ranges looks at an entry's KIND, LOCAL ADDRESS, LENGTH and DATA alone. -/
theorem Entry.rangeOk.congr {e e' : Entry} (h : e.rangeOk) (hk : e'.kind = e.kind) (ha : e'.address = e.address)
    (hl : e'.length = e.length) (hd : e'.data = e.data) : e'.rangeOk := by
  simpa only [Entry.rangeOk, hk, ha, hl, hd] using h

theorem State.append_transferLaws {s : State} (h : s.transferLaws) {e : Entry} (he : e.rangeOk) :
    (s.append e).transferLaws := by
  obtain ⟨hbank, hrange, hop, hdata⟩ := h
  refine ⟨hbank, fun x hx => ?_, hop, hdata⟩
  rw [State.append_journal, List.mem_append, List.mem_singleton] at hx
  rcases hx with hx | rfl
  · exact hrange x hx
  · exact he

theorem Entry.wake_rangeOk {e : Entry} (h : e.rangeOk) (g : BitVec 3) : (e.wake g).rangeOk := by
  unfold Entry.wake
  split
  · exact h.congr rfl rfl rfl rfl
  · exact h

/-! ### Translation (R61, R63) -/

theorem WindowTable.lookup_some {t : WindowTable} {a : Nat} {e : WindowEntry} (h : t.lookup a = some e) :
    e ∈ t.activeBank.toList ∧ e.contains a = true :=
  ⟨List.mem_of_find?_eq_some h, List.find?_some h⟩

theorem WindowEntry.contains_iff {e : WindowEntry} {a : Nat} :
    e.contains a = true ↔ e.valid = true ∧ e.loopBase ≤ a ∧ a < e.loopBase + e.bytes := by
  simp [WindowEntry.contains, and_assoc]

theorem WindowEntry.sound_iff {e : WindowEntry} :
    e.sound = true ↔ (e.valid = true → 1 ≤ e.size.toNat ∧ e.loopBase + e.bytes ≤ 4294967296
      ∧ e.localBase + e.bytes ≤ 4294967296) := by
  cases hv : e.valid with
  | false => simp [WindowEntry.sound, hv]
  | true =>
    simp only [WindowEntry.sound, hv, Bool.not_true, Bool.false_or, Bool.and_eq_true, decide_eq_true_eq, and_assoc,
      forall_true_left]
    rfl

/-- An access that ends inside a sound entry ends below 2^32 once translated (R63). -/
theorem WindowEntry.translate_range {e : WindowEntry} {a n : Nat} (hs : e.sound = true) (hc : e.contains a = true)
    (hf : e.fits a n = true) : (e.translate a).toNat + n ≤ 4294967296 := by
  obtain ⟨hv, hlow, hhigh⟩ := WindowEntry.contains_iff.mp hc
  obtain ⟨_, _, hlocal⟩ := WindowEntry.sound_iff.mp hs hv
  have hf : a + n ≤ e.loopBase + e.bytes := by simpa [WindowEntry.fits] using hf
  rw [WindowEntry.translate, BitVec.toNat_ofNat]
  omega

/-- The access of taken work ends inside the entry that translates it (R44). -/
theorem State.windowFails_false {s : State} {w : Work} {a n : Nat} (ha : w.access = some (a, n))
    (h : s.windowFails w = false) : ∃ e, s.windows.lookup a = some e ∧ e.fits a n = true := by
  simp only [State.windowFails, ha] at h
  split at h
  · simp at h
  · next e he => exact ⟨e, he, by simpa using h⟩

/-- The journal entry of a taken access keeps the law of local ranges. -/
theorem State.accessEntry_rangeOk {s : State} (hbank : s.activeBankLaw) {w : Work} {a : Word} {n : Nat}
    (ha : w.access = some (a.toNat, n)) (h : s.windowFails w = false) {kind : EntryKind} {data : List Byte}
    (hn : 1 ≤ n ∧ n ≤ 64) (hr : kind = .read → n ≤ 32 ∧ data = []) (hw : kind ≠ .read → data.length = n)
    (tag : Byte) (state : EntryState) : (s.accessEntry kind tag a n data state).rangeOk := by
  obtain ⟨e, hlookup, hfits⟩ := State.windowFails_false ha h
  obtain ⟨hmem, hcontains⟩ := WindowTable.lookup_some hlookup
  refine ⟨hn.1, hn.2, ?_, hr, hw⟩
  simp only [State.accessEntry, hlookup]
  exact WindowEntry.translate_range (hbank e hmem) hcontains hfits

/-! ### The window table (R69, R71) -/

theorem WindowTable.setStandby_active (t : WindowTable) (v : Vector WindowEntry 16) :
    (t.setStandby v).active = t.active := by
  unfold WindowTable.setStandby
  split <;> rfl

theorem WindowTable.setStandby_swapCount (t : WindowTable) (v : Vector WindowEntry 16) :
    (t.setStandby v).swapCount = t.swapCount := by
  unfold WindowTable.setStandby
  split <;> rfl

/-- Loading the standby bank leaves the active bank. -/
theorem WindowTable.setStandby_activeBank (t : WindowTable) (v : Vector WindowEntry 16) :
    (t.setStandby v).activeBank = t.activeBank := by
  cases h : t.active <;> simp [WindowTable.setStandby, WindowTable.activeBank, WindowTable.bank, h]

theorem WindowTable.setStandby_standbyBank (t : WindowTable) (v : Vector WindowEntry 16) :
    (t.setStandby v).standbyBank = v := by
  cases h : t.active <;> simp [WindowTable.setStandby, WindowTable.standbyBank, WindowTable.bank, Bank.other, h]

theorem WindowTable.swapBanks_activeBank (t : WindowTable) : t.swapBanks.activeBank = t.standbyBank := by
  cases h : t.active <;> simp [WindowTable.swapBanks, WindowTable.activeBank, WindowTable.standbyBank,
    WindowTable.bank, Bank.other, h]

theorem WindowTable.atReset_sound : ∀ e ∈ WindowTable.atReset.activeBank.toList, e.sound = true := by
  decide

/-- A window table with a sound active bank may take the place of the old one. -/
theorem State.windows_transferLaws {s : State} (h : s.transferLaws) {t : WindowTable}
    (ht : ∀ e ∈ t.activeBank.toList, e.sound = true) : State.transferLaws { s with windows := t } := by
  obtain ⟨_, hrange, hop, hdata⟩ := h
  exact ⟨ht, hrange, hop, hdata⟩

/-! ### Local reset, loop reset and power (R32, R34, R134) -/

/-- The replies that a local reset makes fit a slot. -/
theorem State.abandonedReplies_fit (s : State) : ∀ x ∈ s.abandonedReplies, x.body.data.length ≤ 32 := by
  intro x hx
  rw [State.abandonedReplies, List.mem_append, List.mem_filterMap, List.mem_filterMap] at hx
  rcases hx with ⟨e, _, he⟩ | ⟨g, _, hg⟩
  · unfold Entry.abandonedReply at he
    split at he
    · obtain rfl := Option.some.inj he
      exact Nat.zero_le _
    · simp at he
  · unfold State.abandonedDone at hg
    split at hg
    · obtain rfl := Option.some.inj hg
      rw [Group.doneBody_data_length]
      decide
    · simp at hg

@[simp] theorem State.localResetSequence_journal (s : State) : s.localResetSequence.journal = [] := rfl
@[simp] theorem State.localResetSequence_executor (s : State) : s.localResetSequence.executor = .reset := rfl
@[simp] theorem State.localResetSequence_windows (s : State) : s.localResetSequence.windows = s.windows := rfl
@[simp] theorem State.localResetSequence_loop (s : State) : s.localResetSequence.loop = s.loop := rfl

theorem State.localResetSequence_queue (s : State) :
    s.localResetSequence.replies.queue = s.replies.queue ++ s.abandonedReplies := by
  simp [State.localResetSequence]

theorem State.localResetSequence_transferLaws {s : State} (h : s.transferLaws) :
    s.localResetSequence.transferLaws := by
  obtain ⟨hbank, _, _, hdata⟩ := h
  refine ⟨hbank, by simp [State.rangeLaw], State.operationLaw_reset rfl, fun x hx => ?_⟩
  rw [State.localResetSequence_queue, List.mem_append] at hx
  exact hx.elim (hdata x) (s.abandonedReplies_fit x)

/-- Entering IDLE keeps the laws, whatever the executor did before. -/
theorem State.enter_idle_transferLaws {s : State} (h : s.transferLaws) : (s.enter .idle).transferLaws := by
  obtain ⟨hbank, hrange, _, hdata⟩ := h
  exact ⟨hbank, hrange, State.operationLaw_idle rfl, hdata⟩

theorem State.localResetCommand_transferLaws {s : State} (h : s.transferLaws) :
    s.localResetCommand.transferLaws := by
  unfold State.localResetCommand
  split
  · exact State.localResetSequence_transferLaws h
  · exact State.enter_idle_transferLaws (State.localResetSequence_transferLaws h)

/-- A loop reset leaves the laws to hold whatever stood before. -/
theorem State.loopReset_transferLaws (s : State) : s.loopReset.transferLaws := by
  refine ⟨WindowTable.atReset_sound, fun e he => ?_, ?_, fun x hx => ?_⟩
  · exact absurd he List.not_mem_nil
  · cases h : s.lrstLow
    · exact State.operationLaw_idle (by simp [State.loopReset, executorFor, h])
    · exact State.operationLaw_reset (by simp [State.loopReset, executorFor, h])
  · exact absurd hx List.not_mem_nil

theorem State.powerOn_transferLaws (s : State) (lrstHigh lfiHigh : Bool) :
    (s.powerOn lrstHigh lfiHigh).transferLaws :=
  State.loopReset_transferLaws _

theorem State.powerFail_transferLaws {s : State} (h : s.transferLaws) : s.powerFail.transferLaws := by
  unfold State.powerFail
  split
  · exact (s.powerOn_transferLaws true false).congr rfl rfl rfl rfl
  · exact h

/-! ### The words of a control WRITE (R48, R56, R70, R71) -/

/-- Whether a word fails is judged on the window table alone. -/
theorem State.wordFails_congr {s t : State} (h : t.windows = s.windows) (a : Nat) (x : Word) :
    t.wordFails a x = s.wordFails a x := by
  simp only [State.wordFails, h]

/-- A SWAP word that does not fail finds a valid standby bank (R70). -/
theorem State.swapValid_of_wordFails {s : State} {x : Word} (h : s.wordFails 0x010 x = false) (hx : x.toNat = 1) :
    s.windows.swapValid = true := by
  simpa [State.wordFails, hx] using h

/-- Below the COMMAND word only GATE and LOCAL LIMIT do not fail (R48). -/
theorem State.wordFails_below_command {s : State} {a : Nat} {x : Word} (ha : a < 0x010)
    (h : s.wordFails a x = false) : a = 0x008 ∨ a = 0x00C := by
  by_contra hne
  simp only [not_or] at hne
  have : ¬ (0x100 ≤ a ∧ a < 0x200) := by omega
  simp [State.wordFails, hne, ha.ne, this] at h

theorem State.command_transferLaws {s : State} (h : s.transferLaws) {x : Word} (hx : s.wordFails 0x010 x = false) :
    (s.command x.toNat).transferLaws := by
  unfold State.command
  split
  · next hone =>
    refine State.windows_transferLaws h fun e he => ?_
    rw [WindowTable.swapBanks_activeBank] at he
    exact List.all_eq_true.mp (State.swapValid_of_wordFails hx hone) e he
  · refine State.windows_transferLaws h ?_
    rw [WindowTable.copyBank, WindowTable.setStandby_activeBank]
    exact h.1
  · exact h.congr rfl rfl rfl rfl
  · exact State.localResetCommand_transferLaws h
  · exact h

theorem State.applyWord_transferLaws {s : State} (h : s.transferLaws) {a : Nat} {x : Word}
    (hx : a ≤ 0x010 → s.wordFails a x = false) : (s.applyWord a x).transferLaws := by
  unfold State.applyWord
  split
  · exact h.congr rfl rfl rfl rfl
  · split
    · exact h.congr rfl rfl rfl rfl
    · split
      · next ha => exact State.command_transferLaws h (ha ▸ hx ha.le)
      · refine State.windows_transferLaws h ?_
        rw [WindowTable.writeStandby, WindowTable.setStandby_activeBank]
        exact h.1

/-- GATE and LOCAL LIMIT leave the window table. -/
theorem State.applyWord_windows_below_command (s : State) {a : Nat} (ha : a = 0x008 ∨ a = 0x00C) (x : Word) :
    (s.applyWord a x).windows = s.windows := by
  rcases ha with rfl | rfl <;> rfl

theorem State.applyWords_cons (s : State) (a : Nat) (x : Word) (words : List (Nat × Word)) :
    s.applyWords ((a, x) :: words) = (s.applyWord a x).applyWords words := rfl

/-- The words of a control WRITE keep the laws: only GATE and LOCAL LIMIT come before a SWAP, so the standby bank that was
judged is the one that becomes active (R70, R71). -/
theorem State.applyWords_transferLaws (payload : List Byte) {a : Nat} {s : State} (h : s.transferLaws)
    (hw : a ≤ 0x010 → ∀ w ∈ controlWords a payload, s.wordFails w.1 w.2 = false) :
    (s.applyWords (controlWords a payload)).transferLaws := by
  fun_induction controlWords a payload generalizing s with
  | case1 a b3 b2 b1 b0 rest ih =>
    have hfirst : a ≤ 0x010 → s.wordFails a (wordOf b3 b2 b1 b0) = false := fun ha =>
      hw ha _ List.mem_cons_self
    rw [State.applyWords_cons]
    refine ih (State.applyWord_transferLaws h hfirst) fun ha w hmem => ?_
    have hbelow := State.wordFails_below_command (by omega) (hfirst (by omega))
    rw [State.wordFails_congr (s.applyWord_windows_below_command hbelow _)]
    exact hw (by omega) w (List.mem_cons_of_mem _ hmem)
  | case2 => exact h

/-! ### Beats (R122, R123, R128) -/

/-- How many of the first `m` lanes lie in a range. -/
theorem length_filter_range (lo hi m : Nat) :
    ((List.range m).filter (fun k => decide (lo ≤ k) && decide (k < hi))).length = min hi m - lo := by
  induction m with
  | zero => simp
  | succ m ih =>
    rw [List.range_succ, List.filter_append, List.length_append, ih]
    by_cases h : lo ≤ m ∧ m < hi
    · simp [h]; omega
    · have : (decide (lo ≤ m) && decide (m < hi)) = false := by simpa using h
      simp [this]; omega

/-- How many bytes a READ takes at the beat at `b` (R123). -/
theorem laneBytes_length (a n b : Nat) (ld : BitVec 64) :
    (laneBytes a n b ld).length = min (a + n - b) 8 - (a - b) := by
  have hlanes : laneEnabled a n b = fun k => decide (a - b ≤ k) && decide (k < a + n - b) := by
    funext k
    rw [laneEnabled, decide_eq_decide.mpr (show a ≤ b + k ↔ a - b ≤ k by omega),
      decide_eq_decide.mpr (show b + k < a + n ↔ k < a + n - b by omega)]
  rw [laneBytes, List.length_map, hlanes]
  exact length_filter_range _ _ 8

/-- Gathering touches the gathered bytes alone. -/
theorem Operation.gather_eq (op : Operation) (ld : BitVec 64) :
    op.gather ld = { op with gathered := (op.gather ld).gathered } := by
  unfold Operation.gather
  split <;> rfl

theorem Operation.gather_gathered_length (op : Operation) (ld : BitVec 64) :
    (op.gather ld).gathered.length = op.gathered.length
      + if op.kind = .read then min (op.address.toNat + op.length - op.beatAt) 8 - (op.address.toNat - op.beatAt)
        else 0 := by
  unfold Operation.gather
  split
  · rw [List.length_append, laneBytes_length]
  · rfl

theorem Operation.counted_progressOk {op : Operation} {gathered : Nat} (h : op.progressOk gathered) :
    op.counted.progressOk gathered := by
  obtain ⟨hpos, hmax, hread, _, hbeat, hgathered⟩ := h
  exact ⟨hpos, hmax, hread, Nat.min_le_right _ _, hbeat, hgathered⟩

/-- A beat that is not the last moves the operation on, with that beat's bytes gathered (R128). -/
theorem Operation.nextBeat_progressOk {op next : Operation} {ld : BitVec 64}
    (h : op.progressOk (op.beatAt - op.address.toNat)) (hlast : op.atLast = false)
    (hnext : next = { op.gather ld with beat := op.beat + 1, wait := 0 }) :
    next.progressOk (next.beatAt - next.address.toNat) := by
  obtain ⟨hpos, hmax, hread, _, hbeat, hgathered⟩ := h
  have hmore : op.beat + 1 < beatCount op.address.toNat op.length := by
    simpa [Operation.atLast] using hlast
  have hlen := op.gather_gathered_length ld
  rw [Operation.gather_eq] at hnext
  subst hnext
  refine ⟨hpos, hmax, hread, Nat.zero_le _, hmore, ?_⟩
  show (op.gather ld).gathered.length = _
  rw [hlen, hgathered]
  simp only [Operation.beatAt, beatAddress, beatCount] at *
  split <;> omega

/-- At the last beat a READ has at most its LENGTH gathered, which a reply holds (R14, R123). -/
theorem Operation.gathered_le {op : Operation} {ld : BitVec 64} (h : op.progressOk (op.beatAt - op.address.toNat)) :
    (op.gather ld).gathered.length ≤ 32 := by
  obtain ⟨hpos, hmax, hread, _, hbeat, hgathered⟩ := h
  rw [Operation.gather_gathered_length, hgathered]
  split
  · next hk =>
    have := hread hk
    simp only [Operation.beatAt, beatAddress, beatCount] at *
    omega
  · omega

/-! ### The end of an operation (R87 to R91, R131) -/

theorem State.accountStaged_transferLaws {s : State} (h : s.transferLaws) (g : BitVec 3) (tag : Byte) (o : Ending) :
    (s.accountStaged g tag o).transferLaws := by
  unfold State.accountStaged
  simp only
  split
  · exact State.convertReply_transferLaws (h.congr rfl rfl rfl rfl) _ (by simp [Group.doneBody_data_length])
  · exact h.congr rfl rfl rfl rfl

theorem State.account_transferLaws {s : State} (h : s.transferLaws) (e : Entry) {op : Operation} {o : Ending}
    (hg : o = .ok → op.gathered.length ≤ 32) : (s.account e op o).transferLaws := by
  cases o with
  | ok =>
    simp only [State.account]
    split
    · exact State.convertReply_transferLaws h _ (hg rfl)
    · exact h
    · exact State.accountStaged_transferLaws h _ _ _
  | failed st =>
    simp only [State.account]
    split
    · exact State.convertReply_transferLaws h _ (Nat.zero_le _)
    · exact h.congr rfl rfl rfl (by simp)
    · exact State.accountStaged_transferLaws h _ _ _

theorem State.finish_transferLaws {s : State} (h : s.transferLaws) {op : Operation} {o : Ending}
    (hg : o = .ok → op.gathered.length ≤ 32) : (s.finish op o).transferLaws := by
  unfold State.finish
  split
  · exact State.enter_idle_transferLaws h
  · next e he =>
    refine State.account_transferLaws ?_ e hg
    obtain ⟨hbank, hrange, _, hdata⟩ := h
    exact ⟨hbank, fun x hx => hrange x (List.mem_of_mem_eraseP hx), State.operationLaw_idle rfl, hdata⟩

/-! ### Issue and edges (R82, R126 to R129) -/

theorem State.enter_transferLaws {s : State} (h : s.transferLaws) {x : Executor}
    (hx : (s.enter x).operationLaw) : (s.enter x).transferLaws := by
  obtain ⟨hbank, hrange, _, hdata⟩ := h
  exact ⟨hbank, hrange, hx, hdata⟩

/-- An operation begins at beat 0 with nothing gathered (R124). -/
theorem Entry.operation_progressOk {e : Entry} (h : e.rangeOk) : e.operation.progressOk 0 := by
  obtain ⟨hpos, hmax, _, hread, _⟩ := h
  exact ⟨hpos, hmax, fun hk => (hread hk).1, Nat.zero_le _, Nat.succ_pos _, (ite_self _).symm⟩

theorem State.issueAt_transferLaws {s : State} (h : s.transferLaws) {k : Nat} {e : Entry}
    (he : s.journal[k]? = some e) : (s.issueAt k e).transferLaws := by
  obtain ⟨hbank, hrange, _, hdata⟩ := h
  have hok : e.rangeOk := hrange e (List.mem_of_getElem? he)
  refine ⟨hbank, fun x hx => ?_, ⟨rfl, Entry.operation_progressOk hok⟩, hdata⟩
  rcases List.mem_or_eq_of_mem_set hx with hx | rfl
  · exact hrange x hx
  · exact hok.congr rfl rfl rfl rfl

theorem State.requestEdge_transferLaws {s : State} (h : s.transferLaws) {op : Operation}
    (he : s.executor = .requesting op) (lgnt : Bool) : (s.requestEdge op lgnt).transferLaws := by
  obtain ⟨hbeat, hprogress⟩ : op.beat = 0 ∧ op.progressOk 0 := by
    have := h.2.2.1
    simpa only [State.operationLaw, he] using this
  unfold State.requestEdge
  split
  · refine State.enter_transferLaws h ?_
    obtain ⟨hpos, hmax, hread, _, _, hgathered⟩ := hprogress
    have hstart : beatAddress op.address.toNat 0 - op.address.toNat = 0 := by
      simp only [beatAddress]
      omega
    refine ⟨hpos, hmax, hread, Nat.zero_le _, Nat.succ_pos _, ?_⟩
    show op.gathered.length = if op.kind = .read then beatAddress op.address.toNat 0 - op.address.toNat else 0
    rw [hstart]
    exact hgathered
  · split
    · exact State.finish_transferLaws h (by simp)
    · exact State.enter_transferLaws h ⟨hbeat, Operation.counted_progressOk hprogress⟩

theorem State.beatEdge_transferLaws {s : State} (h : s.transferLaws) {op : Operation}
    (he : s.executor = .transferring op) (lgnt lerr lwait : Bool) (ld : BitVec 64) :
    (s.beatEdge op lgnt lerr lwait ld).transferLaws := by
  have hprogress : op.progressOk (op.beatAt - op.address.toNat) := by
    have := h.2.2.1
    simpa only [State.operationLaw, he] using this
  have failed : ∀ st, (s.finish op (.failed st)).transferLaws := fun st => State.finish_transferLaws h (by simp)
  unfold State.beatEdge
  split
  · exact failed _
  · split
    · exact failed _
    · split
      · unfold State.stretch
        split
        · exact failed _
        · exact State.enter_transferLaws h (Operation.counted_progressOk hprogress)
      · unfold State.beatDone
        split
        · exact State.finish_transferLaws h fun _ => Operation.gathered_le hprogress
        · next hlast =>
          exact State.enter_transferLaws h (Operation.nextBeat_progressOk hprogress (by simpa using hlast) rfl)

/-! ### Sweeps (R152 to R156) -/

/-- Releasing and resending remove and re-mark items; no reply's data changes. -/
theorem ReplyUnit.release_dataFits {r : ReplyUnit} (h : r.DataFits) (c : Byte) : (r.release c).DataFits :=
  fun x hx => h x (List.mem_of_mem_filter hx)

theorem ReplyUnit.resend_dataFits {r : ReplyUnit} (h : r.DataFits) : r.resend.DataFits := by
  intro x hx
  obtain ⟨y, hy, rfl⟩ := List.mem_map.mp hx
  exact h y hy

/-- A sweep is a fill of a reply unit whose reply data still fits. -/
theorem ReplyUnit.sweep_eq {r : ReplyUnit} (h : r.DataFits) (node : BitVec 5) (field : Word) (slots : List Byte) :
    ∃ ready : ReplyUnit, ready.DataFits
      ∧ r.sweep node field slots = fillSlots node (sweepNumber field) (slots.length / 36) slots ready := by
  refine ⟨_, ?_, rfl⟩
  split
  · exact ReplyUnit.resend_dataFits (ReplyUnit.release_dataFits h _)
  · exact ReplyUnit.release_dataFits h _

theorem ReplyUnit.sweep_dataFits {r : ReplyUnit} (h : r.DataFits) (node : BitVec 5) (field : Word)
    (slots : List Byte) : (r.sweep node field slots).2.1.DataFits := by
  obtain ⟨ready, hready, heq⟩ := ReplyUnit.sweep_eq h node field slots
  rw [heq]
  exact (fillSlots_sameItems _ _ _ _ _).dataFits hready

/-- A sweep of whole slots keeps its length (R12). -/
theorem ReplyUnit.sweep_length {r : ReplyUnit} (h : r.DataFits) (node : BitVec 5) (field : Word) {slots : List Byte}
    (hs : slots.length % 36 = 0) : (r.sweep node field slots).1.length = slots.length := by
  obtain ⟨ready, hready, heq⟩ := ReplyUnit.sweep_eq h node field slots
  rw [heq]
  exact (fillSlots_fills _ _ _ (by omega) hready).1

/-! ### Taken work (R40 to R42, R50 to R56) -/

/-- The size of the work a well-made parcel asks for (Table 1-1, R41). -/
def Work.SizeOk : Work → Prop
  | .memoryRead _ n => 1 ≤ n ∧ n ≤ 32
  | .memoryWrite _ data => 1 ≤ data.length ∧ data.length ≤ 64
  | .stage _ _ data => 1 ≤ data.length ∧ data.length ≤ 64
  | .sweep _ slots => slots.length % 36 = 0
  | .controlRead _ n => n ≤ 8
  | .controlWrite words => ∃ a payload, words = controlWords a payload
  | _ => True

/-- The work of a parcel that passes the form check has a lawful size. -/
theorem work_sizeOk_of_formOk {p : Parcel} (h : p.formOk = true) : p.work.SizeOk := by
  obtain ⟨hheader, hcontent⟩ : p.headerOk = true ∧ p.contentOk = true := by
    simpa only [Parcel.formOk, Bool.and_eq_true] using h
  unfold Parcel.work
  split
  · next hk =>
    split
    · next hc =>
      simp only [Parcel.contentOk, hk, hc, if_true, Bool.and_eq_true, decide_eq_true_eq] at hcontent
      show p.firstByte / 4 ≤ 8
      omega
    · next hc => simpa [Parcel.contentOk, hk, hc, Work.SizeOk] using hcontent
  · next hk =>
    split
    · exact ⟨_, _, rfl⟩
    · next hc =>
      simp only [Parcel.headerOk, hk, hc, Bool.false_eq_true, if_false, Parcel.lengthIn, Bool.and_eq_true,
        decide_eq_true_eq] at hheader
      exact hheader.2.2
  · next hk =>
    simp only [Parcel.headerOk, hk, Parcel.lengthIn, Bool.and_eq_true, decide_eq_true_eq] at hheader
    exact hheader.2.2
  · trivial
  · trivial
  · next hk =>
    simp only [Parcel.headerOk, hk, Bool.and_eq_true, beq_iff_eq] at hheader
    exact hheader.2.2
  · trivial
  · trivial
  · trivial

theorem State.capture_length (s : State) (a n : Nat) : (s.capture a n).length = 4 * n := by
  induction n generalizing a with
  | zero => rfl
  | succ n ih => simp [State.capture, ih]; omega

theorem State.commitGroup_transferLaws {s : State} (h : s.transferLaws) (g : BitVec 3) (tag : Byte) :
    (s.commitGroup g tag).transferLaws := by
  unfold State.commitGroup
  split
  · obtain ⟨hbank, hrange, hop, hdata⟩ := h
    refine ⟨hbank, fun x hx => ?_, hop, hdata⟩
    obtain ⟨e, he, rfl⟩ := List.mem_map.mp hx
    exact Entry.wake_rangeOk (hrange e he) g
  · exact State.queueReply_transferLaws h _ (by simp [ReplyBody.commitDone_data_length])

theorem State.discardGroup_transferLaws {s : State} (h : s.transferLaws) (g : BitVec 3) (tag : Byte) :
    (s.discardGroup g tag).transferLaws := by
  have hone : ∀ n, (ReplyBody.discardDone n).data.length ≤ 32 := fun n => by simp [ReplyBody.data]
  unfold State.discardGroup
  split
  · refine State.queueReply_transferLaws ?_ _ (hone _)
    obtain ⟨hbank, hrange, hop, hdata⟩ := h
    exact ⟨hbank, fun x hx => hrange x (List.mem_of_mem_filter hx), hop, hdata⟩
  · exact State.queueReply_transferLaws h _ (hone _)

/-- What the owning block does with taken work keeps the laws. -/
theorem State.handOn_transferLaws {s : State} {p : Parcel} (hj : s.judge p = .taken) (h : s.transferLaws) :
    (s.handOn p.tag p.work).transferLaws := by
  obtain ⟨hform, _, hwindow, _, _, _, hcontents⟩ := State.judge_taken.mp hj
  have hsize := work_sizeOk_of_formOk hform
  obtain ⟨hbank, _, _, hdata⟩ := id h
  cases hw : p.work with
  | memoryRead a n =>
    rw [hw] at hwindow hsize
    obtain ⟨hpos, hmax⟩ := hsize
    have hentry := State.accessEntry_rangeOk hbank rfl hwindow (kind := .read) (data := []) (by omega)
      (fun _ => ⟨hmax, rfl⟩) (by simp) p.tag .waiting
    exact (State.append_transferLaws h hentry).congr rfl rfl rfl rfl
  | memoryWrite a data =>
    rw [hw] at hwindow hsize
    exact State.append_transferLaws h
      (State.accessEntry_rangeOk hbank rfl hwindow hsize (by simp) (fun _ => rfl) _ _)
  | stage g a data =>
    rw [hw] at hwindow hsize
    exact (State.append_transferLaws h
      (State.accessEntry_rangeOk hbank rfl hwindow hsize (by simp) (fun _ => rfl) _ _)).congr rfl rfl rfl rfl
  | commit g => exact State.commitGroup_transferLaws h g _
  | discard g => exact State.discardGroup_transferLaws h g _
  | sweep field slots =>
    obtain ⟨hbank, hrange, hop, _⟩ := h
    exact ⟨hbank, hrange, hop, ReplyUnit.sweep_dataFits hdata _ _ _⟩
  | step c => exact h.congr rfl rfl rfl rfl
  | number v => exact h.congr rfl rfl rfl rfl
  | loopReset => exact s.loopReset_transferLaws
  | controlRead a n =>
    rw [hw] at hsize
    refine State.queueReply_transferLaws h _ ?_
    have hsize : n ≤ 8 := hsize
    simp only [ReplyBody.data, State.capture_length]
    omega
  | controlWrite words =>
    rw [hw] at hsize hcontents
    obtain ⟨a, payload, rfl⟩ := hsize
    refine State.applyWords_transferLaws payload h fun _ w hmem => ?_
    simpa using List.any_eq_false.mp hcontents w hmem

/-- Whatever happens, the laws of transfer are kept. -/
theorem transferLaws_of_happening {s t : State} (h : s.transferLaws) (ht : Happening s t) : t.transferLaws := by
  have heard : ∀ gap p, (s.heard gap p).transferLaws := fun _ _ => h.congr rfl rfl rfl rfl
  cases ht with
  | stays => exact h
  | takesBroadcast gap p _ _ _ taken =>
    exact (State.handOn_transferLaws taken (heard gap p)).congr rfl rfl rfl rfl
  | takesUnicast gap p _ _ _ taken =>
    exact (State.handOn_transferLaws taken (heard gap p)).congr rfl rfl rfl rfl
  | powersOn lrstHigh lfiHigh => exact s.powerOn_transferLaws lrstHigh lfiHigh
  | powerFails => exact State.powerFail_transferLaws h
  | issues k e _ _ _ _ entry => exact State.issueAt_transferLaws h entry
  | requestEdge op lgnt _ executor => exact State.requestEdge_transferLaws h executor lgnt
  | beatEdge op lgnt lerr lwait ld _ executor => exact State.beatEdge_transferLaws h executor lgnt lerr lwait ld
  | lrstFalls => exact (State.localResetSequence_transferLaws h).congr rfl rfl rfl rfl
  | lrstRises => exact State.enter_idle_transferLaws (h.congr rfl rfl rfl rfl)
  | _ => exact h.congr rfl rfl rfl rfl

end Sys2Proof.Machine

namespace Sys2Proof.Proofs

open Sys2Proof.Machine

/-- Settles O54, by cases on what a step does. -/
theorem everyStepKeepsTheTransferLaws : Obligations.EveryStepKeepsTheTransferLaws :=
  fun s _ h hstep => by
    have hqueue : State.transferLaws { s with pending := s.pending.tail } := h.congr rfl rfl rfl rfl
    exact transferLaws_of_happening hqueue (step_happening hstep)

end Sys2Proof.Proofs
end

section
/-! PROOFS. The bytes of the forwarding buffer: what leaves the loop port alone, and what a run adds (R4). -/

set_option Elab.async false

namespace Sys2Proof.Machine

/-! ### The local side leaves the loop port alone -/

@[simp] theorem State.accountStaged_loop (s : State) (g : BitVec 3) (tag : Byte) (o : Ending) :
    (s.accountStaged g tag o).loop = s.loop := by
  unfold State.accountStaged
  simp only
  split <;> rfl

@[simp] theorem State.account_loop (s : State) (e : Entry) (op : Operation) (o : Ending) :
    (s.account e op o).loop = s.loop := by
  cases o <;> cases h : e.kind <;> simp [State.account, h]

@[simp] theorem State.finish_loop (s : State) (op : Operation) (o : Ending) : (s.finish op o).loop = s.loop := by
  unfold State.finish
  split <;> simp

theorem State.requestEdge_loop (s : State) (op : Operation) (lgnt : Bool) :
    (s.requestEdge op lgnt).loop = s.loop := by
  unfold State.requestEdge
  split
  · rfl
  · split
    · exact s.finish_loop _ _
    · rfl

theorem State.beatEdge_loop (s : State) (op : Operation) (lgnt lerr lwait : Bool) (ld : BitVec 64) :
    (s.beatEdge op lgnt lerr lwait ld).loop = s.loop := by
  simp only [State.beatEdge, State.stretch, State.beatDone]
  split_ifs <;> simp

/-! ### Taken work and the loop port -/

@[simp] theorem State.commitGroup_loop (s : State) (g : BitVec 3) (tag : Byte) :
    (s.commitGroup g tag).loop = s.loop := by
  unfold State.commitGroup
  split <;> rfl

@[simp] theorem State.discardGroup_loop (s : State) (g : BitVec 3) (tag : Byte) :
    (s.discardGroup g tag).loop = s.loop := by
  unfold State.discardGroup
  split <;> rfl

@[simp] theorem State.localResetCommand_loop (s : State) : s.localResetCommand.loop = s.loop := by
  unfold State.localResetCommand
  split <;> rfl

@[simp] theorem State.command_loop (s : State) (value : Nat) : (s.command value).loop = s.loop := by
  unfold State.command
  split
  · rfl
  · rfl
  · rfl
  · exact s.localResetCommand_loop
  · rfl

@[simp] theorem State.applyWord_loop (s : State) (a : Nat) (x : Word) : (s.applyWord a x).loop = s.loop := by
  unfold State.applyWord
  split_ifs <;> simp

@[simp] theorem State.applyWords_loop (s : State) (words : List (Nat × Word)) :
    (s.applyWords words).loop = s.loop := by
  induction words generalizing s with
  | nil => rfl
  | cons w words ih => exact (ih _).trans (s.applyWord_loop _ _)

/-- Taken work adds no byte to the forwarding buffer and takes none from it (R33). -/
theorem State.handOn_held (s : State) (tag : Byte) (w : Work) : (s.handOn tag w).loop.held = s.loop.held := by
  cases w with
  | number | loopReset => rfl
  | commit g => exact congrArg _ (s.commitGroup_loop g tag)
  | discard g => exact congrArg _ (s.discardGroup_loop g tag)
  | controlWrite words => exact congrArg _ (s.applyWords_loop words)
  | _ => rfl

/-- A sweep's slots are its payload (R12). -/
theorem payload_of_work_sweep {p : Parcel} {field : Word} {slots : List Byte} (h : p.work = .sweep field slots) :
    slots = p.payload := by
  unfold Parcel.work at h
  split at h
  case h_6 => cases h; rfl
  case h_1 | h_2 => split at h <;> cases h
  all_goals cases h

/-- A taken parcel leaves with as many payload bytes as it arrived with (R5). -/
theorem State.rewritten_payload_length {s : State} {p : Parcel} (hform : p.formOk = true) (hdata : s.dataLaw) :
    (s.rewritten p).payload.length = p.payload.length := by
  unfold State.rewritten
  split
  · next field slots hw =>
    have hsize := work_sizeOk_of_formOk hform
    rw [hw] at hsize
    rw [← payload_of_work_sweep hw]
    exact ReplyUnit.sweep_length hdata _ _ hsize
  · rfl
  · rfl

/-! ### What a run adds -/

/-- Where loop-in receives a run, at most 758 bytes are held until it is queued (R4). -/
theorem State.held_of_hears {s : State} {gap : Nat} (h : s.hears gap = true) (n : Nat) :
    (s.loop.byteTimes (max gap 1 + n)).held ≤ 758 := by
  obtain ⟨_, _, hfree⟩ := State.hears_iff.mp h
  have hroom : 266 ≤ 1024 - (s.loop.byteTimes (max gap 1)).held := hfree
  rw [LoopPort.byteTimes_add]
  exact (LoopPort.byteTimes_held_le n _).trans (by omega)

theorem State.enqueue_held (s : State) (bytes : List Byte) (waited : Nat) :
    (s.enqueue bytes waited).loop.held = s.loop.held + bytes.length := by
  simp [LoopPort.held]
  omega

theorem cutOverlong_held (run : List Byte) (s : State) :
    (cutOverlong run s).loop.held = s.loop.held + min 266 run.length := by
  have h := s.raiseFraming.enqueue_held (run.take Config.maxRun) 1
  rw [List.length_take] at h
  exact h

/-- A parcel whose payload LENGTH can count adds at most 266 bytes. -/
theorem State.forward_bufferLaw {s : State} {p : Parcel} (h : s.loop.held ≤ 758) (hp : p.payload.length ≤ 255) :
    (s.forward p).bufferLaw := by
  have := s.enqueue_held (p.run p.check) 0
  rw [Parcel.run_length] at this
  exact this.trans_le (by omega)

/-- Whatever happens, the forwarding buffer holds at most 1024 bytes. -/
theorem bufferLaw_of_happening {s t : State} (hlaws : s.transferLaws) (h : s.bufferLaw) (ht : Happening s t) :
    t.bufferLaw := by
  have passed : ∀ n, (s.loop.byteTimes n).held ≤ 1024 := fun n => (LoopPort.byteTimes_held_le n _).trans h
  have received : ∀ {gap}, s.hears gap = true → ∀ p, (s.heard gap p).loop.held ≤ 758 := fun hears p =>
    State.held_of_hears hears _
  cases ht with
  | stays => exact h
  | passes n => exact passed n
  | discardingEnds n => exact passed n
  | drops n => exact passed n
  | cuts gap run hears long =>
    have := State.held_of_hears hears 267
    rw [State.bufferLaw, cutOverlong_held, State.pass_loop]
    omega
  | misframed gap run hears short =>
    have := State.held_of_hears hears run.length
    exact (State.enqueue_held (s.pass (max gap 1 + run.length)) run 0).trans_le (by simp only [State.pass_loop]; omega)
  | marksDamaged gap p hears fits => exact State.forward_bufferLaw (p := { p with damaged := true }) (received hears p) fits
  | forwards gap p hears fits => exact State.forward_bufferLaw (received hears p) fits
  | refuses gap p d hears fits => exact State.forward_bufferLaw (p := { p with mark := d.code }) (received hears p) fits
  | unnumbers gap p hears fits => exact State.forward_bufferLaw (p := p) (received hears p) fits
  | takesBroadcast gap p hears fits owns taken =>
    have hlength : ((s.heard gap p).rewritten p).payload.length = p.payload.length :=
      State.rewritten_payload_length (State.judge_taken.mp taken).1 hlaws.2.2.2
    refine State.forward_bufferLaw (p := { (s.heard gap p).rewritten p with mark := p.mark + 1 }) ?_
      (hlength.trans_le fits)
    exact (State.handOn_held _ _ _).trans_le (received hears p)
  | takesUnicast gap p hears fits =>
    refine State.forward_bufferLaw (p := { p with mark := Disposition.taken.code }) ?_ fits
    exact (State.handOn_held _ _ _).trans_le (received hears p)
  | powersOn => exact Nat.zero_le _
  | powerFails =>
    unfold State.powerFail
    split
    · exact Nat.zero_le _
    · exact h
  | issues => exact h
  | requestEdge op lgnt => rw [State.bufferLaw, State.requestEdge_loop]; exact h
  | beatEdge op lgnt lerr lwait ld => rw [State.bufferLaw, State.beatEdge_loop]; exact h
  | lrstFalls => exact h
  | lrstRises => exact h
  | lrstRisesUnheld => exact h
  | attnRises => exact h

end Sys2Proof.Machine

namespace Sys2Proof.Proofs

open Sys2Proof.Machine

/-- Settles O56: a run is received only with 266 bytes free, and adds at most 266. -/
theorem everyStepKeepsTheBufferLaw : Obligations.EveryStepKeepsTheBufferLaw := fun s _ hlaws h hstep => by
  have hqueue : State.transferLaws { s with pending := s.pending.tail } := hlaws.congr rfl rfl rfl rfl
  exact bufferLaw_of_happening hqueue h (step_happening hstep)

end Sys2Proof.Proofs
end

section
/-! PROOFS. A control WRITE that is taken: its checks, its words, and the standby words it loads (R15, R16, R48, R56,
R67). -/

set_option Elab.async false

namespace Sys2Proof.Machine

/-! ### A control WRITE at Intake (R36, R39, R48) -/

theorem State.addressed_iff {s : State} {e : Envelope} :
    s.addressed e = true ↔ s.loop.loopState = .numbered e.dest ∧ e.dest ≠ 0#5 ∧ e.dest ≠ 31#5 ∧ e.mark = 0#8 := by
  simp [State.addressed, unicastDest, and_assoc]

/-- A unicast parcel of an envelope that addresses the node is the node's own (R36). -/
theorem State.owns_of_addressed {s : State} {e : Envelope} (h : s.addressed e = true) (kind : BitVec 4)
    (control : Bool) (a : Word) (payload : List Byte) : s.owns (e.parcel kind control a payload) = true := by
  obtain ⟨hstate, hzero, hall, hmark⟩ := State.addressed_iff.mp h
  simp [State.owns, Parcel.broadcast, Envelope.parcel, hstate, hzero, hall, hmark]

/-- A control WRITE's work is the application of its words. -/
theorem work_controlWrite (e : Envelope) (a : Word) (payload : List Byte) :
    (e.parcel 2#4 true a payload).work = .controlWrite (controlWords a.toNat payload) := rfl

/-- A control WRITE to a legal range none of whose words fails passes every check (R39 to R42, R48). -/
theorem State.judge_controlWrite {s : State} {e : Envelope} {a : Word} {payload : List Byte}
    (hzero : e.dest ≠ 0#5) (hall : e.dest ≠ 31#5)
    (hmin : 4 ≤ payload.length) (hmax : payload.length ≤ 64) (hwhole : payload.length % 4 = 0)
    (hrange : controlRangeOk a.toNat (payload.length / 4) = true)
    (hwords : ∀ w ∈ controlWords a.toNat payload, s.wordFails w.1 w.2 = false) :
    s.judge (e.parcel 2#4 true a payload) = .taken := by
  have hheader : (e.parcel 2#4 true a payload).headerOk = true := by
    simp [Parcel.headerOk, Envelope.parcel, Parcel.broadcast, Parcel.lengthIn, hzero, hall, hmin, hmax, hwhole]
  have hcontent : (e.parcel 2#4 true a payload).contentOk = true := hrange
  have hcontents : s.contentsFail (.controlWrite (controlWords a.toNat payload)) = false :=
    List.any_eq_false.mpr fun w hw => by simp [hwords w hw]
  rw [State.judge_taken, work_controlWrite]
  exact ⟨by simp [Parcel.formOk, hheader, hcontent], rfl, rfl, rfl, rfl, rfl, hcontents⟩

/-- A control WRITE that is taken applies its words and is answered TAKEN (R56, R57). -/
theorem State.arrive_controlWrite {s : State} {e : Envelope} {a : Word} {payload : List Byte}
    (hh : s.hears e.gap = true) (ha : s.addressed e = true)
    (hmin : 4 ≤ payload.length) (hmax : payload.length ≤ 64) (hwhole : payload.length % 4 = 0)
    (hrange : controlRangeOk a.toNat (payload.length / 4) = true)
    (hwords : ∀ w ∈ controlWords a.toNat payload, s.wordFails w.1 w.2 = false) :
    s.arrive e.gap (e.parcel 2#4 true a payload) =
      ((s.heard e.gap (e.parcel 2#4 true a payload)).applyWords (controlWords a.toNat payload)).dispose .taken
        (e.parcel 2#4 true a payload) := by
  obtain ⟨_, hzero, hall, _⟩ := State.addressed_iff.mp ha
  have howns : (s.heard e.gap (e.parcel 2#4 true a payload)).owns (e.parcel 2#4 true a payload) = true := by
    refine State.owns_of_addressed ?_ _ _ _ _
    simpa [State.addressed] using ha
  have hjudge : (s.heard e.gap (e.parcel 2#4 true a payload)).judge (e.parcel 2#4 true a payload) = .taken :=
    State.judge_controlWrite hzero hall hmin hmax hwhole hrange fun w hw => hwords w hw
  have hunicast : (e.parcel 2#4 true a payload).broadcast = false := by simp [Parcel.broadcast, Envelope.parcel, hall]
  rw [State.arrive_heard hh (show payload.length ≤ 255 by omega) rfl, State.intake_taken howns hjudge, hunicast,
    work_controlWrite]
  rfl

/-! ### The words of a payload (R15) -/

/-- A payload of whole words spells one word at each address of its range. -/
theorem controlWords_spell (a : Nat) (payload : List Byte) (h : payload.length % 4 = 0) :
    (controlWords a payload).map (·.1) = (List.range (payload.length / 4)).map (fun j => a + 4 * j)
    ∧ (controlWords a payload).flatMap (fun w => wordBytes w.2) = payload := by
  fun_induction controlWords a payload with
  | case1 a b3 b2 b1 b0 rest ih =>
    simp only [List.length_cons] at h
    obtain ⟨haddr, hbytes⟩ := ih (by omega)
    have hcount : (rest.length + 1 + 1 + 1 + 1) / 4 = rest.length / 4 + 1 := by omega
    constructor
    · rw [List.map_cons, haddr]
      simp only [List.length_cons]
      rw [hcount, List.range_succ_eq_map, List.map_cons, List.map_map]
      refine congrArg (a :: ·) (List.map_congr_left fun j _ => ?_)
      simp only [Function.comp]
      omega
    · simp only [List.flatMap_cons, hbytes, wordBytes_wordOf]
      rfl
  | case2 payload a hshort =>
    match payload with
    | [] => exact ⟨rfl, rfl⟩
    | [_] | [_, _] | [_, _, _] => simp at h
    | b3 :: b2 :: b1 :: b0 :: rest => exact (hshort b3 b2 b1 b0 rest rfl).elim

theorem length_flatMap_wordBytes (words : List Word) : (words.flatMap wordBytes).length = 4 * words.length := by
  induction words with
  | nil => rfl
  | cons x words ih => simp [ih]; omega

theorem controlWords_flatMap_cons (a : Nat) (x : Word) (words : List Word) :
    controlWords a ((x :: words).flatMap wordBytes) = (a, x) :: controlWords (a + 4) (words.flatMap wordBytes) := by
  conv_rhs => rw [← wordOf_wordBytes x]
  rfl

/-- Word `k` of a payload written from words is for `a + 4k` (R15). -/
theorem mem_controlWords_flatMap {a : Nat} {words : List Word} {w : Nat × Word}
    (h : w ∈ controlWords a (words.flatMap wordBytes)) :
    ∃ (k : Nat) (hk : k < words.length), w = (a + 4 * k, words[k]) := by
  induction words generalizing a with
  | nil => simp [controlWords] at h
  | cons x words ih =>
    rw [controlWords_flatMap_cons, List.mem_cons] at h
    rcases h with rfl | h
    · exact ⟨0, Nat.succ_pos _, rfl⟩
    · obtain ⟨k, hk, rfl⟩ := ih h
      exact ⟨k + 1, Nat.succ_lt_succ hk, by simp; omega⟩

/-! ### Standby words (R16, R67) -/

theorem toNat_ofBool_getLsbD {w : Nat} (x : BitVec w) (i : Nat) :
    (BitVec.ofBool (x.getLsbD i)).toNat = x.toNat / 2 ^ i % 2 := by
  rw [BitVec.toNat_ofBool, BitVec.getLsbD, Nat.toNat_testBit]

/-- Word `w` of a window entry can hold `x`: the bits that must be zero are zero (R16, R48). -/
def entryWordOk (w : Nat) (x : Word) : Prop :=
  match w with
  | 0 => x.toNat % 2 ^ 8 = 0
  | 1 => x.toNat < 2 ^ 24
  | 2 => x.toNat % 2 ^ 3 = 0
  | _ => x.toNat / 2 ^ 3 % 2 ^ 28 = 0

/-- A word that an entry can hold reads back (R67). -/
theorem WindowEntry.setWord_word_same (e : WindowEntry) {w : Nat} {x : Word} (h : entryWordOk w x) :
    (e.setWord w x).word w = x := by
  have hx := x.isLt
  apply BitVec.eq_of_toNat_eq
  match w, h with
  | 0, h =>
    have h : x.toNat % 2 ^ 8 = 0 := h
    simp only [WindowEntry.word, WindowEntry.setWord, toNat_append_add, toNat_field, BitVec.toNat_ofNat]
    omega
  | 1, h =>
    have h : x.toNat < 2 ^ 24 := h
    simp only [WindowEntry.word, WindowEntry.setWord, toNat_append_add, toNat_field, BitVec.toNat_ofNat]
    omega
  | 2, h =>
    have h : x.toNat % 2 ^ 3 = 0 := h
    simp only [WindowEntry.word, WindowEntry.setWord, toNat_append_add, toNat_field, BitVec.toNat_ofNat]
    omega
  | _ + 3, h =>
    have h : x.toNat / 2 ^ 3 % 2 ^ 28 = 0 := h
    simp only [WindowEntry.word, WindowEntry.setWord, toNat_append_add, toNat_ofBool_getLsbD, BitVec.toNat_ofNat]
    omega

/-- Writing one word of an entry leaves its other words. -/
theorem WindowEntry.setWord_word_ne (e : WindowEntry) {w w' : Nat} (hw : w < 4) (hw' : w' < 4) (h : w ≠ w') (x : Word) :
    (e.setWord w x).word w' = e.word w' := by
  match w, w', hw, hw' with
  | 0, 0, _, _ | 1, 1, _, _ | 2, 2, _, _ | 3, 3, _, _ => exact absurd rfl h
  | 0, 1, _, _ | 0, 2, _, _ | 0, 3, _, _ | 1, 0, _, _ | 1, 2, _, _ | 1, 3, _, _ | 2, 0, _, _ | 2, 1, _, _ | 2, 3, _, _
  | 3, 0, _, _ | 3, 1, _, _ | 3, 2, _, _ => rfl

/-- A standby word that does not fail is one its entry can hold (R48). -/
theorem State.entryWordOk_of_wordFails {s : State} {j : Nat} {x : Word} (hj : j < 64)
    (h : s.wordFails (0x100 + 4 * j) x = false) : entryWordOk (j % 4) x := by
  have hx := x.isLt
  have hrange : 0x100 ≤ 0x100 + 4 * j ∧ 0x100 + 4 * j < 0x200 := by omega
  have hword : (0x100 + 4 * j) % 16 / 4 = j % 4 := by omega
  rw [State.wordFails, if_neg (by omega), if_neg (by omega), if_neg (by omega), if_pos hrange, hword] at h
  have hcase : j % 4 < 4 := Nat.mod_lt _ (by decide)
  have field : ∀ {start len : Nat}, (x.extractLsb' start len != 0#len) = false → x.toNat / 2 ^ start % 2 ^ len = 0 :=
    fun hf => by
      have := congrArg BitVec.toNat (bne_eq_false_iff_eq.mp hf)
      rwa [toNat_field, BitVec.toNat_ofNat, Nat.zero_mod] at this
  generalize j % 4 = w at h hcase
  match w, h with
  | 0, h => simpa [entryWordOk] using field h
  | 1, h =>
    have := field (Bool.or_eq_false_iff.mp h).1
    show x.toNat < 2 ^ 24
    omega
  | 2, h => simpa [entryWordOk] using field h
  | 3, h => exact field h

theorem bankEntry_set (v : Vector WindowEntry 16) (i k : Nat) (hi : i < 16) (e : WindowEntry) :
    bankEntry (v.set i e hi) k = if i = k % 16 then e else bankEntry v k := by
  simp only [bankEntry, Vector.getElem_set]

/-- Standby word `k` as it reads. -/
def WindowTable.standbyWord (t : WindowTable) (k : Nat) : Word := (bankEntry t.standbyBank (k / 4)).word (k % 4)

/-- A standby word written reads back, and every other standby word stays (R67). -/
theorem WindowTable.writeStandby_standbyWord (t : WindowTable) {j k : Nat} (hj : j < 64) (hk : k < 64) {x : Word}
    (hx : entryWordOk (j % 4) x) :
    (t.writeStandby (0x100 + 4 * j) x).standbyWord k = if k = j then x else t.standbyWord k := by
  have hentry : (0x100 + 4 * j) / 16 % 16 = j / 4 := by omega
  have hword : (0x100 + 4 * j) % 16 / 4 = j % 4 := by omega
  have hindex : k / 4 % 16 = k / 4 := by omega
  have hread : bankEntry t.standbyBank ((0x100 + 4 * j) / 16) = bankEntry t.standbyBank (j / 4) := by
    simp only [bankEntry, hentry, show j / 4 % 16 = j / 4 by omega]
  rw [WindowTable.standbyWord, WindowTable.writeStandby, WindowTable.setStandby_standbyBank, bankEntry_set, hentry,
    hword, hindex, hread]
  by_cases hsame : j / 4 = k / 4
  · rw [if_pos hsame]
    by_cases hkj : k = j
    · rw [if_pos hkj, hkj]
      exact WindowEntry.setWord_word_same _ hx
    · rw [if_neg hkj, hsame]
      exact WindowEntry.setWord_word_ne _ (Nat.mod_lt _ (by decide)) (Nat.mod_lt _ (by decide)) (by omega) x
  · rw [if_neg hsame, if_neg (by rintro rfl; exact hsame rfl)]
    rfl

theorem WindowTable.writeStandby_keeps (t : WindowTable) (a : Nat) (x : Word) :
    (t.writeStandby a x).active = t.active ∧ (t.writeStandby a x).swapCount = t.swapCount
      ∧ (t.writeStandby a x).activeBank = t.activeBank :=
  ⟨t.setStandby_active _, t.setStandby_swapCount _, t.setStandby_activeBank _⟩

/-- `t'` is `t` with `words` loaded from standby word `i` on. -/
def WindowTable.Loaded (t t' : WindowTable) (i : Nat) (words : List Word) : Prop :=
  t'.active = t.active ∧ t'.swapCount = t.swapCount ∧ t'.activeBank = t.activeBank
  ∧ ∀ k < 64, t'.standbyWord k =
      if i ≤ k ∧ k < i + words.length then words.getD (k - i) 0#32 else t.standbyWord k

/-- A word of the standby bank applies to the window table alone (R67). -/
theorem State.applyWord_standby (s : State) {j : Nat} (hj : j < 64) (x : Word) :
    s.applyWord (0x100 + 4 * j) x = { s with windows := s.windows.writeStandby (0x100 + 4 * j) x } := by
  rw [State.applyWord, if_neg (by omega), if_neg (by omega), if_neg (by omega)]

/-- Standby words apply one after another, each read back where it was written (R67). -/
theorem State.applyWords_standby (words : List Word) {i : Nat} (s : State) (hi : i + words.length ≤ 64)
    (hok : ∀ (k : Nat) (hk : k < words.length), entryWordOk ((i + k) % 4) words[k]) :
    ∃ t, s.applyWords (controlWords (0x100 + 4 * i) (words.flatMap wordBytes)) = { s with windows := t }
      ∧ s.windows.Loaded t i words := by
  induction words generalizing i s with
  | nil =>
    refine ⟨s.windows, rfl, rfl, rfl, rfl, fun k _ => ?_⟩
    rw [if_neg (by simp)]
  | cons x words ih =>
    simp only [List.length_cons] at hi
    have hfirst : entryWordOk (i % 4) x := hok 0 (Nat.succ_pos _)
    have hrest : ∀ (k : Nat) (hk : k < words.length), entryWordOk ((i + 1 + k) % 4) words[k] := fun k hk => by
      have := hok (k + 1) (Nat.succ_lt_succ hk)
      rwa [List.getElem_cons_succ, show i + (k + 1) = i + 1 + k by omega] at this
    obtain ⟨hactive, hcount, hbank⟩ := s.windows.writeStandby_keeps (0x100 + 4 * i) x
    obtain ⟨t, happly, tactive, tcount, tbank, twords⟩ :=
      ih { s with windows := s.windows.writeStandby (0x100 + 4 * i) x } (by omega) hrest
    refine ⟨t, ?_, tactive.trans hactive, tcount.trans hcount, tbank.trans hbank, fun k hk => ?_⟩
    · rw [controlWords_flatMap_cons, State.applyWords_cons, s.applyWord_standby (by omega)]
      exact happly
    · rw [twords k hk, WindowTable.writeStandby_standbyWord _ (by omega) hk hfirst]
      by_cases hki : k = i
      · subst hki
        simp
      · by_cases hin : i + 1 ≤ k ∧ k < i + 1 + words.length
        · rw [if_pos hin, if_pos (by simp; omega), show k - i = k - (i + 1) + 1 by omega, List.getD_cons_succ]
        · rw [if_neg hin, if_neg hki, if_neg (by simp; omega)]

/-- A range of standby words is a legal control range (R42). -/
theorem controlRangeOk_standby {i n : Nat} (h : i + n ≤ 64) : controlRangeOk (0x100 + 4 * i) n = true := by
  have hmapped : ∀ k < n, mapped (0x100 + 4 * i + 4 * k) = true := fun k hk => by
    have : 0x100 ≤ 0x100 + 4 * i + 4 * k ∧ 0x100 + 4 * i + 4 * k < 0x300 := by omega
    simp [mapped, this]
  have haligned : (0x100 + 4 * i) % 4 = 0 := by omega
  have hinside : 0x100 + 4 * i + 4 * n ≤ 0x1000 := by omega
  rw [controlRangeOk, haligned, decide_eq_true hinside, List.all_eq_true.mpr fun k hk => hmapped k (List.mem_range.mp hk)]
  rfl

/-- The ADDRESS that STANDBY_BANK_WRITE spells. -/
theorem standbyAddress_eq (i : BitVec 6) :
    0x100#32 + i.setWidth 32 * 4#32 = BitVec.ofNat 32 (0x100 + 4 * i.toNat) := by
  apply BitVec.eq_of_toNat_eq
  simp
  omega

theorem standbyAddress_toNat (i : BitVec 6) :
    (BitVec.ofNat 32 (0x100 + 4 * i.toNat)).toNat = 0x100 + 4 * i.toNat := by
  have := i.isLt
  rw [BitVec.toNat_ofNat]
  omega

end Sys2Proof.Machine

namespace Sys2Proof.Proofs

open Sys2Proof.Machine

/-- Settles O37: the WRITE passes every check, and its words apply in order. -/
theorem controlWriteIsTaken : Obligations.ControlWriteIsTaken := by
  refine ⟨?_, controlWords_spell⟩
  rintro e a payload s p rfl hh ha hmin hmax hwhole hrange hwords
  exact congrArg _ (State.arrive_controlWrite hh ha hmin hmax hwhole hrange hwords)

/-- Settles O43, by induction on the words written. -/
theorem standbyBankWriteStoresItsWords : Obligations.StandbyBankWriteStoresItsWords := by
  rintro e i words s p rfl hh ha hmin hmax hi hok
  have hlength := length_flatMap_wordBytes words
  have hwords : ∀ w ∈ controlWords (BitVec.ofNat 32 (0x100 + 4 * i.toNat)).toNat (words.flatMap wordBytes),
      s.wordFails w.1 w.2 = false := fun w hw => by
    rw [standbyAddress_toNat] at hw
    obtain ⟨k, hk, rfl⟩ := mem_controlWords_flatMap hw
    have := hok k hk
    rwa [Nat.mul_add, ← Nat.add_assoc] at this
  have hrange : controlRangeOk (BitVec.ofNat 32 (0x100 + 4 * i.toNat)).toNat ((words.flatMap wordBytes).length / 4)
      = true := by
    rw [standbyAddress_toNat]
    exact controlRangeOk_standby (by omega)
  have harrive := State.arrive_controlWrite hh ha (by omega) (by omega) (by omega) hrange hwords
  obtain ⟨t, happly, hloaded⟩ := State.applyWords_standby words
    (s.heard e.gap (e.parcel 2#4 true (BitVec.ofNat 32 (0x100 + 4 * i.toNat)) (words.flatMap wordBytes))) hi
    fun k hk => State.entryWordOk_of_wordFails (by omega) (hok k hk)
  rw [standbyAddress_toNat, happly] at harrive
  refine ⟨t, ?_, hloaded⟩
  rw [exec_arrival (c := .standbyBankWrite e i words) rfl, standbyAddress_eq, harrive]

end Sys2Proof.Proofs
end

section
/-! PROOFS. Every word of control space as it reads, as a number (R16 to R19, R72, R98, R118, R163, R172, R173, R175). -/

set_option Elab.async false

namespace Sys2Proof.Machine

/-! ### Fields as numbers -/

theorem toNat_ofBool_beq {α : Type} [DecidableEq α] (x y : α) :
    (BitVec.ofBool (x == y)).toNat = if x = y then 1 else 0 := by
  by_cases h : x = y <;> simp [h]

/-- A count that its field can hold. -/
theorem toNat_count {w n : Nat} (h : n < 2 ^ w) : (BitVec.ofNat w n).toNat = n := by
  rw [BitVec.toNat_ofNat, Nat.mod_eq_of_lt h]

/-! ### Registers (R19, R72, R163, R172, R173) -/

theorem State.nodeStatus_toNat {s : State} {n : BitVec 5} (hn : s.loop.loopState = .numbered n)
    (hc : s.gate.credits ≤ 15) (hj : s.journal.length ≤ 32) :
    s.nodeStatus.toNat = 2 ^ 31 + 2 ^ 24 * n.toNat + (if s.executor = .reset then 2 ^ 23 else 0)
      + (if s.gate.mode = .held then 2 ^ 16 else 0) + 2 ^ 8 * s.gate.credits + s.journal.length := by
  have hnumbered : (BitVec.ofBool (s.loop.loopState != .unnumbered)).toNat = 1 := by simp [hn]
  have hnumber : nodeNumber s.loop.loopState = n := by rw [hn]; rfl
  have hcredits : (BitVec.ofNat 4 s.gate.credits).toNat = s.gate.credits := toNat_count (by omega)
  have hlength : (BitVec.ofNat 6 s.journal.length).toNat = s.journal.length := toNat_count (by omega)
  simp only [State.nodeStatus, State.localHeld, toNat_append_add, toNat_ofBool_beq, hnumbered, hnumber, hcredits, hlength,
    BitVec.toNat_ofNat]
  split_ifs <;> omega

theorem State.gateWord_toNat (s : State) : s.gateWord.toNat = if s.gate.mode = .held then 1 else 0 := by
  simp only [State.gateWord, toNat_append_add, toNat_ofBool_beq, BitVec.toNat_ofNat]
  split_ifs <;> rfl

theorem State.bankStatus_toNat (s : State) :
    s.bankStatus.toNat = (if s.windows.active = .b then 2 ^ 16 else 0) + s.windows.swapCount.toNat := by
  simp only [State.bankStatus, toNat_append_add, toNat_ofBool_beq, BitVec.toNat_ofNat]
  split_ifs <;> omega

theorem isNone_eq_decide (x : Option Byte) : x.isNone = decide (x = none) := by cases x <;> rfl

theorem isSome_eq_decide (x : Option Byte) : x.isSome = decide (x ≠ none) := by cases x <;> rfl

/-- The attention report's three bits of QUEUE STATUS (R163). -/
theorem Attention.bits_toNat (a : Attention) :
    2 * a.code.toNat + (BitVec.ofBool a.again).toNat =
      match a with
      | .idle => 0
      | .pending => 2
      | .carried _ again => 4 + (if again then 1 else 0) := by
  cases a with
  | idle | pending => rfl
  | carried n again => cases again <;> rfl

theorem State.queueStatus_toNat {s : State} (hq : s.replies.queue.length ≤ 16) (hr : s.replies.reservations ≤ 16)
    (hf : s.replies.faults.length ≤ 4) (hl : s.replies.lostFaults ≤ 255) :
    s.queueStatus.toNat =
      2 ^ 27 * s.replies.queue.countP (fun x => x.carrying = none)
        + 2 ^ 22 * s.replies.queue.countP (fun x => x.carrying ≠ none)
        + 2 ^ 17 * s.replies.reservations
        + 2 ^ 14 * s.replies.faults.countP (fun x => x.carrying = none)
        + 2 ^ 11 * s.replies.faults.countP (fun x => x.carrying ≠ none)
        + 2 ^ 3 * s.replies.lostFaults
        + (2 * s.replies.attention.code.toNat + (BitVec.ofBool s.replies.attention.again).toNat) := by
  have inQueue : ∀ p, (BitVec.ofNat 5 (s.replies.queue.countP p)).toNat = s.replies.queue.countP p := fun p =>
    toNat_count ((List.countP_le_length.trans hq).trans_lt (by decide))
  have inFaults : ∀ p, (BitVec.ofNat 3 (s.replies.faults.countP p)).toNat = s.replies.faults.countP p := fun p =>
    toNat_count ((List.countP_le_length.trans hf).trans_lt (by decide))
  have reserved : (BitVec.ofNat 5 s.replies.reservations).toNat = s.replies.reservations := toNat_count (by omega)
  have lost : (BitVec.ofNat 8 s.replies.lostFaults).toNat = s.replies.lostFaults := toNat_count (by omega)
  simp only [State.queueStatus, toNat_append_add, isNone_eq_decide, isSome_eq_decide, inQueue, inFaults, reserved, lost]
  omega

/-! ### Tallies, banks, journal view and group view (R16 to R19) -/

theorem State.controlWord_tally (s : State) {i : Nat} (hi : i < 11) :
    s.controlWord (0x040 + 4 * i) = BitVec.ofNat 32 (s.tallies.counts.getD i 0) := by
  have hindex : (0x040 + 4 * i - 0x040) / 4 = i := by omega
  rw [State.controlWord, if_neg (by omega), if_neg (by omega), if_neg (by omega), if_neg (by omega), if_neg (by omega),
    if_neg (by omega), if_neg (by omega), if_pos (by omega), hindex]

theorem bankEntry_index (v : Vector WindowEntry 16) {k i : Nat} (hi : i < 16) (hk : k % 16 = i) :
    bankEntry v k = v[i] := by
  simp only [bankEntry, hk]

theorem State.controlWord_standby (s : State) {i w : Nat} (hi : i < 16) (hw : w < 4) :
    s.controlWord (0x100 + 16 * i + 4 * w) = s.windows.standbyBank[i].word w := by
  rw [State.controlWord, if_neg (by omega), if_neg (by omega), if_neg (by omega), if_neg (by omega), if_neg (by omega),
    if_neg (by omega), if_neg (by omega), if_neg (by omega), if_pos (by omega),
    bankEntry_index _ hi (by omega), show (0x100 + 16 * i + 4 * w) % 16 / 4 = w by omega]

theorem State.controlWord_active (s : State) {i w : Nat} (hi : i < 16) (hw : w < 4) :
    s.controlWord (0x200 + 16 * i + 4 * w) = s.windows.activeBank[i].word w := by
  rw [State.controlWord, if_neg (by omega), if_neg (by omega), if_neg (by omega), if_neg (by omega), if_neg (by omega),
    if_neg (by omega), if_neg (by omega), if_neg (by omega), if_neg (by omega), if_pos (by omega),
    bankEntry_index _ hi (by omega), show (0x200 + 16 * i + 4 * w) % 16 / 4 = w by omega]

theorem State.controlWord_journal (s : State) {k w : Nat} (hk : k < 32) (hw : w < 4) :
    s.controlWord (0x400 + 16 * k + 4 * w) = journalWord s.journal k w := by
  rw [State.controlWord, if_neg (by omega), if_neg (by omega), if_neg (by omega), if_neg (by omega), if_neg (by omega),
    if_neg (by omega), if_neg (by omega), if_neg (by omega), if_neg (by omega), if_neg (by omega), if_pos (by omega),
    show (0x400 + 16 * k + 4 * w - 0x400) / 16 = k by omega, show (0x400 + 16 * k + 4 * w) % 16 / 4 = w by omega]

theorem State.controlWord_group (s : State) (g : BitVec 3) :
    s.controlWord (0x600 + 4 * g.toNat) = (s.group g).word := by
  rw [State.controlWord, if_neg (by omega), if_neg (by omega), if_neg (by omega), if_neg (by omega), if_neg (by omega),
    if_neg (by omega), if_neg (by omega), if_neg (by omega), if_neg (by omega), if_neg (by omega), if_neg (by omega),
    show (0x600 + 4 * g.toNat - 0x600) / 4 = g.toNat by omega, BitVec.ofNat_toNat, BitVec.setWidth_eq]

/-- The four words of a window entry (R16). -/
theorem WindowEntry.word_toNat (e : WindowEntry) :
    (e.word 0).toNat = e.loopBase ∧ (e.word 1).toNat = e.size.toNat ∧ (e.word 2).toNat = e.localBase
    ∧ (e.word 3).toNat = 2 ^ 31 * e.valid.toNat + 4 * e.r.toNat + 2 * e.w.toNat + e.s.toNat := by
  simp only [WindowEntry.word, WindowEntry.loopBase, WindowEntry.localBase, toNat_append_add, BitVec.toNat_ofBool,
    BitVec.toNat_ofNat]
  omega

theorem journalWord_beyond {j : List Entry} {k : Nat} (h : j.length ≤ k) (w : Nat) : journalWord j k w = 0#32 := by
  simp [journalWord, h]

/-- Word 0 of a journal view record (R17). -/
theorem journalWord_zero {j : List Entry} {k : Nat} {e : Entry} (he : j[k]? = some e) (hl : e.length ≤ 64) :
    (journalWord j k 0).toNat = 2 ^ 28 * e.state.code.toNat
      + (2 ^ 24 * e.kind.code.toNat + 2 ^ 16 * e.kind.groupField.toNat)
      + (if blockedAt j k then 2 ^ 23 else 0) + 2 ^ 8 * e.tag.toNat + e.length := by
  have hlength : (BitVec.ofNat 8 e.length).toNat = e.length := toNat_count (by omega)
  simp only [journalWord, he, toNat_append_add, hlength, BitVec.toNat_ofBool, BitVec.toNat_ofNat]
  cases blockedAt j k <;> simp <;> omega

theorem EntryState.code_toNat (state : EntryState) :
    state.code.toNat =
      match state with
      | .waiting => 1
      | .parked => 2
      | .issued => 3 := by
  cases state <;> rfl

/-- KIND and the group field of a journal view record (R17). -/
theorem EntryKind.bits_toNat (kind : EntryKind) :
    2 ^ 24 * kind.code.toNat + 2 ^ 16 * kind.groupField.toNat =
      match kind with
      | .read => 2 ^ 24
      | .posted => 2 ^ 24 * 2
      | .staged g => 2 ^ 24 * 3 + 2 ^ 19 + 2 ^ 16 * g.toNat := by
  cases kind with
  | read | posted => rfl
  | staged g =>
    simp only [EntryKind.code, EntryKind.groupField, toNat_append_add, BitVec.toNat_ofNat]
    omega

/-- A group view word (R18). -/
theorem Group.word_toNat {r : Group} (he : r.entryCount ≤ 32) (hw : r.written ≤ 32) (hf : r.failed ≤ 32) :
    r.word.toNat = 2 ^ 30 * r.state.code.toNat + 2 ^ 24 * r.entryCount + 2 ^ 18 * r.written + 2 ^ 12 * r.failed
      + 2 ^ 8 * (match r.first with
          | none => 0
          | some (_, st) => st.code.toNat)
      + (r.commitTag.getD 0#8).toNat := by
  have count : ∀ {n : Nat}, n ≤ 32 → (BitVec.ofNat 6 n).toNat = n := fun h => toNat_count (h.trans_lt (by decide))
  rw [Group.word, toNat_append_add]
  simp only [toNat_append_add, count he, count hw, count hf]
  rcases r.first with _ | ⟨_, st⟩ <;> simp only [BitVec.toNat_ofNat] <;> omega

end Sys2Proof.Machine

namespace Sys2Proof.Proofs

open Sys2Proof.Machine

/-- Settles O36, word by word. -/
theorem statusWordsShowTheirOwners : Obligations.StatusWordsShowTheirOwners := by
  intro s
  refine ⟨rfl, rfl, fun n => State.nodeStatus_toNat, s.bankStatus_toNat, fun k w hk hk' hw => ?_, s.gateWord_toNat, ?_,
    fun hq hr hf hl => ?_, fun i n hi hn => ?_, fun i base e h hbase => ?_, fun k e hk he hl => ?_,
    fun g r hr he hw hf => ?_⟩
  · rw [s.controlWord_journal hk' hw, journalWord_beyond hk]
  · show (0#24 ++ s.limit : Word).toNat = s.limit.toNat
    rw [toNat_append_add]
    simp
  · show s.queueStatus.toNat = _
    exact (State.queueStatus_toNat hq hr hf hl).trans (congrArg _ s.replies.attention.bits_toNat)
  · have hi' : i < 11 := (List.getElem?_eq_some_iff.mp hi).1
    have hget : s.tallies.counts.getD i 0 = n := by
      rw [List.getD_eq_getElem?_getD, show s.tallies.counts[i]? = some n from hi, Option.getD_some]
    rw [s.controlWord_tally hi', hget, toNat_count (by omega)]
  · obtain ⟨h0, h1, h2, h3⟩ := e.word_toNat
    have hword : ∀ w < 4, s.controlWord (base + 16 * i + 4 * w) = e.word w := fun w hw => by
      rcases hbase with ⟨rfl, rfl⟩ | ⟨rfl, rfl⟩
      · exact s.controlWord_standby h hw
      · exact s.controlWord_active h hw
    exact ⟨(congrArg _ (hword 0 (by decide))).trans h0, (congrArg _ (hword 1 (by decide))).trans h1,
      (congrArg _ (hword 2 (by decide))).trans h2, (congrArg _ (hword 3 (by decide))).trans h3⟩
  · have hword : ∀ w < 4, s.controlWord (0x400 + 16 * k + 4 * w) = journalWord s.journal k w := fun w hw =>
      s.controlWord_journal hk hw
    have hbeyond : ∀ w, journalWord s.journal k (w + 2) = 0#32 := fun w => by simp only [journalWord, he]
    have hzero := journalWord_zero he hl
    rw [EntryState.code_toNat, EntryKind.bits_toNat] at hzero
    exact ⟨(congrArg _ (hword 0 (by decide))).trans hzero, (hword 1 (by decide)).trans (by simp only [journalWord, he]),
      (hword 2 (by decide)).trans (hbeyond 0), (hword 3 (by decide)).trans (hbeyond 1)⟩
  · subst hr
    rw [s.controlWord_group, Group.word_toNat he hw hf]
    cases (s.group g).state <;> rcases (s.group g).first with _ | ⟨_, _ | _ | _ | _ | _ | _⟩ <;> rfl

end Sys2Proof.Proofs
end

section
/-! PROOFS. Power: what POWER_ON and a lost supply leave, and that power-on reset holds the part (R34, R138). -/

set_option Elab.async false

namespace Sys2Proof.Machine

/-! ### Power-on reset holds the part (R34) -/

/-- Held in power-on reset, loop-in receives nothing. -/
theorem State.arriveBytes_unpowered {s : State} (hp : s.powered = false) (gap : Nat) (run : List Byte) :
    s.arriveBytes gap run = s := by
  cases run with
  | nil => rfl
  | cons b rest => simp [State.arriveBytes, arriveRun, listen, hp]

/-- Held in power-on reset, the executor does not look at an edge. -/
theorem State.edge_unpowered {s : State} (hp : s.powered = false) (lgnt lerr lwait : Bool) (ld : BitVec 64) :
    s.edge lgnt lerr lwait ld = s := by
  simp [State.edge, hp]

/-- Held in power-on reset, the part answers every command but POWER_ON with the state it is in. -/
theorem exec_unpowered {c : Instr} {s : State} (hp : s.powered = false) (hc : ∀ a b, c ≠ .powerOn a b) :
    exec c s = .next s := by
  have bytes : ∀ {gap run}, c.brings = some (gap, run) → exec c s = .next s := fun hb => by
    rw [exec_brings_bytes hb, State.arriveBytes_unpowered hp]
  cases c with
  | powerOn a b => exact absurd rfl (hc a b)
  | supplyBelowRange => simp [exec, execSupplyBelowRange, State.powerFail, hp]
  | runDropped gap => simp [exec, execRunDropped, dropAtFirstByte, hp]
  | lfiFalls n => simp [exec, execLfiFalls, lfiFall, hp]
  | parcelSend => simp [exec, execParcelSend, hp]
  | issue => simp [exec, execIssue, State.takeIssue, hp]
  | grant | beatDone | completion | grantTimeout | waitTimeout | grantLost | busError | grantWaitEdge | beatStretched =>
    exact congrArg _ (State.edge_unpowered hp _ _ _ _)
  | lrstFall => simp [exec, execLrstFall, hp]
  | lrstRise => simp [exec, execLrstRise, hp]
  | attnRise => simp [exec, execAttnRise, hp]
  | _ => exact bytes rfl

/-- Held in power-on reset, a step takes a command off the queue, and only POWER_ON does anything. -/
theorem step_unpowered {s t : State} (hp : s.powered = false) (h : step s = .next t) :
    t = { s with pending := s.pending.tail } ∨ ∃ a b, t = State.powerOn { s with pending := s.pending.tail } a b := by
  unfold step at h
  split at h
  · next hq =>
    obtain rfl := Host.Outcome.next.inj h
    have htick : tick s = s := by simp [tick, hp]
    rw [hq, List.tail_nil, ← hq]
    exact .inl htick
  · next c rest hq =>
    rw [hq, List.tail_cons]
    by_cases hc : ∃ a b, c = .powerOn a b
    · obtain ⟨a, b, rfl⟩ := hc
      exact .inr ⟨a, b, (Host.Outcome.next.inj h).symm⟩
    · have hstays : exec c { s with pending := rest } = .next { s with pending := rest } :=
        exec_unpowered hp fun a b hab => hc ⟨a, b, hab⟩
      exact .inl (Host.Outcome.next.inj (hstays.symm.trans h)).symm

/-- A supply falls below its range while the part is powered (R34). -/
theorem State.powerFail_powered {s : State} (hp : s.powered = true) :
    s.powerFail =
      { s.powerOn true false with
        powered := false, loop := LoopPort.inReset, bus := heldPins s.heldDraws, heldDraws := s.heldDraws + 1 } := by
  rw [State.powerFail, if_pos hp]

/-! ### The laws at reset (R33, R60, R96, R102) -/

/-- Every group record is cleared at reset (R102). -/
theorem State.reset_group (g : BitVec 3) : State.reset.group g = Group.cleared := Vector.getElem_replicate _

theorem Group.cleared_recordOk : Group.cleared.recordOk :=
  ⟨by decide, fun _ => rfl, fun h => (nomatch h), fun h => (nomatch h)⟩

theorem State.reset_groupLaw : State.reset.groupLaw := by
  refine ⟨fun g => ?_, fun _ he => absurd he List.not_mem_nil, fun _ he => absurd he List.not_mem_nil⟩
  rw [State.reset_group]
  exact ⟨Group.cleared_recordOk, rfl, fun _ => rfl, fun _ => rfl⟩

theorem State.reset_workLaws : State.reset.workLaws :=
  ⟨⟨rfl, fun _ => rfl⟩, fun _ _ _ he => absurd he List.not_mem_nil, State.reset_groupLaw, rfl,
    ⟨Nat.zero_le _, Nat.zero_le _⟩⟩

theorem State.reset_transferLaws : State.reset.transferLaws :=
  ⟨WindowTable.atReset_sound, fun _ he => absurd he List.not_mem_nil, trivial, fun _ he => absurd he List.not_mem_nil⟩

end Sys2Proof.Machine

namespace Sys2Proof.Proofs

open Sys2Proof.Machine

/-- Settles O4: a powered part that loses a supply drives `heldPins`. -/
theorem powerOnAndSupplyFailure : Obligations.PowerOnAndSupplyFailure := by
  refine ⟨fun lrstHigh lfiHigh s => ?_, fun s hp => ⟨heldPins s.heldDraws, rfl, rfl, ?_⟩⟩
  · cases lrstHigh <;> rfl
  · exact congrArg _ (State.powerFail_powered hp)

/-- Settles O5, command by command. -/
theorem powerOnResetHoldsThePart : Obligations.PowerOnResetHoldsThePart := fun _ _ hp hc => exec_unpowered hp hc

/-- Settles O57, block by block. -/
theorem lawsHoldAtReset : Obligations.LawsHoldAtReset := by
  have portLaw : State.reset.portLaw := ⟨⟨fun _ => rfl, fun _ => rfl⟩, fun h => (nomatch h)⟩
  have lrstLaw : State.reset.lrstLaw := ⟨fun h => (nomatch h), fun h => (nomatch h)⟩
  have numberLaw : State.reset.numberLaw := fun _ h => (nomatch h)
  have tallyLaw : State.reset.tallyLaw := by
    show ∀ n ∈ Tallies.zero.counts, n ≤ 65535
    decide
  exact ⟨State.reset_workLaws, .nil, State.reset_transferLaws, ⟨Nat.zero_le _, fun _ => rfl⟩, fun _ => rfl, portLaw,
    lrstLaw, numberLaw, tallyLaw, ⟨Nat.zero_le _, Nat.zero_le _⟩, Nat.zero_le _⟩

end Sys2Proof.Proofs
end

section
/-! PROOFS. Numbering and loop reset: the broadcasts that are a node's own in either loop state (R25 to R27, R32). -/

set_option Elab.async false

namespace Sys2Proof.Machine

/-- A broadcast NUMBER or LOOPRESET is the node's own in either loop state (R37). -/
theorem State.owns_loopBroadcast (s : State) {p : Parcel} (hb : p.broadcast = true) (hk : p.kind = 8#4 ∨ p.kind = 9#4) :
    s.owns p = true := by
  cases hl : s.loop.loopState <;> rcases hk with hk | hk <;> simp [State.owns, hb, hl, hk]

theorem broadcast_parcel {e : Envelope} (hd : e.dest = 31#5) (kind : BitVec 4) (control : Bool) (a : Word)
    (payload : List Byte) : (e.parcel kind control a payload).broadcast = true := by
  simp [Parcel.broadcast, Envelope.parcel, hd]

theorem work_number (e : Envelope) (v : Word) : (e.parcel 8#4 false v []).work = .number v := rfl

theorem work_loopReset (e : Envelope) (a : Word) : (e.parcel 9#4 false a []).work = .loopReset := rfl

/-- The form check refuses a broadcast NUMBER for v = 0 alone (R41). -/
theorem formOk_number {e : Envelope} (hd : e.dest = 31#5) (v : Word) :
    (e.parcel 8#4 false v []).formOk = (v != 0#32) := by
  simp [Parcel.formOk, Parcel.headerOk, Parcel.contentOk, Parcel.lengthIn, Parcel.broadcast, Envelope.parcel, hd]

theorem formOk_loopReset {e : Envelope} (hd : e.dest = 31#5) (a : Word) :
    (e.parcel 9#4 false a []).formOk = true := by
  simp [Parcel.formOk, Parcel.headerOk, Parcel.contentOk, Parcel.lengthIn, Parcel.broadcast, Envelope.parcel, hd]

/-- A NUMBER that is not 0 passes every check (R39). -/
theorem State.judge_number (s : State) {e : Envelope} (hd : e.dest = 31#5) {v : Word} (hv : v ≠ 0#32) :
    s.judge (e.parcel 8#4 false v []) = .taken := by
  rw [State.judge_taken, work_number, formOk_number hd]
  exact ⟨by simpa using hv, rfl, rfl, rfl, rfl, rfl, rfl⟩

/-- A NUMBER of 0 is not taken (R41). -/
theorem State.judge_number_zero (s : State) {e : Envelope} (hd : e.dest = 31#5) :
    s.judge (e.parcel 8#4 false 0#32 []) ≠ .taken := fun h => by
  have hform := (State.judge_taken.mp h).1
  simp [formOk_number hd] at hform

/-- A LOOPRESET passes every check (R39). -/
theorem State.judge_loopReset (s : State) {e : Envelope} (hd : e.dest = 31#5) (a : Word) :
    s.judge (e.parcel 9#4 false a []) = .taken := by
  rw [State.judge_taken, work_loopReset]
  exact ⟨formOk_loopReset hd a, rfl, rfl, rfl, rfl, rfl, rfl⟩

theorem Work.unnumbers_number (v : Word) : (Work.number v).unnumbers = true ↔ 31 ≤ v.toNat := by
  simp [Work.unnumbers]

/-- NUMBER with v of 1 to 30 numbers the node and leaves with v + 1 and its take count raised (R26). -/
theorem State.intake_number (s : State) {e : Envelope} (hd : e.dest = 31#5) {v : Word} (hv : v ≠ 0#32)
    (hmax : v.toNat ≤ 30) :
    s.intake (e.parcel 8#4 false v []) =
      { s with loop := { s.loop with loopState := .numbered (v.setWidth 5) } }.forward
        { e.parcel 8#4 false v [] with address := v + 1, mark := e.mark + 1 } := by
  have hb := broadcast_parcel hd 8#4 false v []
  have hn : (Work.number v).unnumbers = false := by simp [Work.unnumbers]; omega
  rw [State.intake_taken (s.owns_loopBroadcast hb (.inl rfl)) (s.judge_number hd hv), work_number, hn, hb]
  rfl

/-- NUMBER with v of 31 or more makes the node UNNUMBERED and leaves as it arrived (R27). -/
theorem State.intake_number_unnumbers (s : State) {e : Envelope} (hd : e.dest = 31#5) {v : Word} (hmin : 31 ≤ v.toNat) :
    s.intake (e.parcel 8#4 false v []) =
      { s with loop := { s.loop with loopState := .unnumbered } }.forward (e.parcel 8#4 false v []) := by
  have hb := broadcast_parcel hd 8#4 false v []
  have hv : v ≠ 0#32 := by rintro rfl; simp at hmin
  rw [State.intake_taken (s.owns_loopBroadcast hb (.inl rfl)) (s.judge_number hd hv), work_number,
    if_pos ((Work.unnumbers_number v).mpr hmin)]

/-- NUMBER with v = 0 is forwarded untouched (R39, R41). -/
theorem State.intake_number_zero (s : State) {e : Envelope} (hd : e.dest = 31#5) :
    s.intake (e.parcel 8#4 false 0#32 []) = s.forward (e.parcel 8#4 false 0#32 []) := by
  have hb := broadcast_parcel hd 8#4 false 0#32 []
  rw [State.intake_refused (s.owns_loopBroadcast hb (.inl rfl)) (s.judge_number_zero hd), if_pos hb]

/-- The bus carries the idle pattern in IDLE and in RESET (R121). -/
theorem executorFor_pins (lrstLow : Bool) : (executorFor lrstLow).pins = BusPins.idle := by
  cases lrstLow <;> rfl

/-- LOOPRESET resets the node and leaves with its take count raised (R32). -/
theorem State.intake_loopReset (s : State) {e : Envelope} (hd : e.dest = 31#5) (a : Word) :
    s.intake (e.parcel 9#4 false a []) =
      s.loopReset.forward { e.parcel 9#4 false a [] with mark := e.mark + 1 } := by
  have hb := broadcast_parcel hd 9#4 false a []
  rw [State.intake_taken (s.owns_loopBroadcast hb (.inr rfl)) (s.judge_loopReset hd a), work_loopReset, hb]
  rfl

end Sys2Proof.Machine

namespace Sys2Proof.Proofs

open Sys2Proof.Machine

/-- Settles O21, by the three rows of Table 2-1. -/
theorem numberGivesOrTakesTheNumber : Obligations.NumberGivesOrTakesTheNumber := by
  rintro e v s p q hh hd rfl rfl
  have harrive := State.arrive_heard (p := e.parcel 8#4 false v []) hh (Nat.zero_le _) rfl
  refine ⟨fun hmin hmax => ?_, fun hmin => ?_, ?_⟩
  · have hv : v ≠ 0#32 := by rintro rfl; simp at hmin
    rw [State.intake_number _ hd hv hmax, ← BitVec.ofNat_toNat] at harrive
    exact congrArg _ harrive
  · rw [State.intake_number_unnumbers _ hd hmin] at harrive
    exact congrArg _ harrive
  · rintro rfl
    rw [State.intake_number_zero _ hd] at harrive
    exact congrArg _ harrive

/-- Settles O22: a LOOPRESET is taken in either loop state, and the pins it leaves are idle whatever the level of LRST#. -/
theorem loopResetEmptiesTheNode : Obligations.LoopResetEmptiesTheNode := by
  rintro e a s p q hh hd rfl rfl
  have harrive := State.arrive_heard (p := e.parcel 9#4 false a []) hh (Nat.zero_le _) rfl
  rw [State.intake_loopReset _ hd, State.loopReset, State.enter, executorFor_pins] at harrive
  exact congrArg _ harrive

end Sys2Proof.Proofs
end

section
/-! PROOFS. The register laws through the named operations: the gate, the pins, the level of LRST#, the node number, the
tallies, the fault list, and LCO (R23, R34, R121, R137, R140, R164, R166, R175). -/

set_option Elab.async false

namespace Sys2Proof.Machine

/-! ### What the laws look at -/

/-- The fields that the register laws look at. -/
def State.registers (s : State) : Bool × ByteClock × LoopState × Executor × Bool × BusPins × Gate × Tallies ×
    List FaultRecord × Nat :=
  (s.powered, s.loop.lco, s.loop.loopState, s.executor, s.lrstLow, s.bus, s.gate, s.tallies, s.replies.faults,
    s.replies.lostFaults)

/-- The register laws that hold whether or not the part is powered. -/
structure State.RegisterLaws (s : State) : Prop where
  gate : s.gateLaw
  pins : s.pinsLaw
  lrst : s.lrstLaw
  number : s.numberLaw
  tally : s.tallyLaw
  fault : s.faultLaw

/-- `t` keeps each register law that `s` meets, and LCO goes on running with the supplies in range. -/
structure State.KeepsRegisterLaws (s t : State) : Prop where
  gate : s.gateLaw → t.gateLaw
  pins : s.pinsLaw → t.pinsLaw
  lrst : s.lrstLaw → t.lrstLaw
  number : s.numberLaw → t.numberLaw
  tally : s.tallyLaw → t.tallyLaw
  fault : s.faultLaw → t.faultLaw
  running : s.powered = true ∧ s.loop.lco = .running → t.powered = true ∧ t.loop.lco = .running

namespace State.KeepsRegisterLaws

variable {s t u : State}

theorem refl (s : State) : s.KeepsRegisterLaws s := ⟨id, id, id, id, id, id, id⟩

theorem trans (h : s.KeepsRegisterLaws t) (h' : t.KeepsRegisterLaws u) : s.KeepsRegisterLaws u where
  gate := h'.gate ∘ h.gate
  pins := h'.pins ∘ h.pins
  lrst := h'.lrst ∘ h.lrst
  number := h'.number ∘ h.number
  tally := h'.tally ∘ h.tally
  fault := h'.fault ∘ h.fault
  running := h'.running ∘ h.running

theorem of_registers (h : t.registers = s.registers) : s.KeepsRegisterLaws t := by
  simp only [State.registers, Prod.mk.injEq] at h
  obtain ⟨hpowered, hlco, hloop, hexec, hlrst, hbus, hgate, htallies, hfaults, hlost⟩ := h
  constructor <;>
    simp only [State.gateLaw, State.pinsLaw, State.lrstLaw, State.numberLaw, State.tallyLaw, State.faultLaw, hpowered,
      hlco, hloop, hexec, hlrst, hbus, hgate, htallies, hfaults, hlost, imp_self]

/-- Laws that hold afterwards whatever stood before. -/
theorem of_laws (h : t.RegisterLaws) (hr : s.powered = true ∧ s.loop.lco = .running →
    t.powered = true ∧ t.loop.lco = .running) : s.KeepsRegisterLaws t :=
  ⟨fun _ => h.gate, fun _ => h.pins, fun _ => h.lrst, fun _ => h.number, fun _ => h.tally, fun _ => h.fault, hr⟩

theorem of_gate {g : Gate} (h : s.gateLaw → g.credits ≤ 15 ∧ (g.mode = .opened → g.credits = 0)) :
    s.KeepsRegisterLaws { s with gate := g } := ⟨h, id, id, id, id, id, id⟩

theorem of_tallies {t : Tallies} (h : s.tallyLaw → State.tallyLaw { s with tallies := t }) :
    s.KeepsRegisterLaws { s with tallies := t } := ⟨id, id, id, id, h, id, id⟩

theorem of_replies {r : ReplyUnit} (h : s.faultLaw → State.faultLaw { s with replies := r }) :
    s.KeepsRegisterLaws { s with replies := r } := ⟨id, id, id, id, id, h, id⟩

theorem of_loopState {l : LoopState} (h : State.numberLaw { s with loop := { s.loop with loopState := l } }) :
    s.KeepsRegisterLaws { s with loop := { s.loop with loopState := l } } := ⟨id, id, id, fun _ => h, id, id, id⟩

/-- The executor enters a state with its pins (R121). -/
theorem of_enter {x : Executor} (h : s.lrstLaw → (s.enter x).lrstLaw) : s.KeepsRegisterLaws (s.enter x) :=
  ⟨id, fun _ _ => rfl, h, id, id, id, id⟩

/-- The executor goes from one state outside RESET to another (R137). -/
theorem of_enter_ne_reset {x : Executor} (hs : s.executor ≠ .reset) (hx : x ≠ .reset) :
    s.KeepsRegisterLaws (s.enter x) :=
  of_enter fun h => iff_of_false hx (mt h.mpr hs)

end State.KeepsRegisterLaws

/-! ### Tallies (R175) -/

/-- A tally that is raised stays at most 65535. -/
theorem State.tallyLaw_of_set {s t : State} (h : s.tallyLaw) {i n : Nat}
    (hc : t.tallies.counts = s.tallies.counts.set i (min n 65535)) : t.tallyLaw := by
  intro m hm
  rw [hc] at hm
  rcases List.mem_or_eq_of_mem_set hm with hm | rfl
  · exact h m hm
  · exact Nat.min_le_right _ _

theorem Tallies.zero_counts : ∀ n ∈ Tallies.zero.counts, n ≤ 65535 := by decide

theorem State.raiseFraming_keeps (s : State) : s.KeepsRegisterLaws s.raiseFraming :=
  .of_tallies fun h => State.tallyLaw_of_set (i := 9) h rfl

theorem State.raiseDamaged_keeps (s : State) : s.KeepsRegisterLaws { s with tallies := s.tallies.raiseDamaged } :=
  .of_tallies fun h => State.tallyLaw_of_set (i := 8) h rfl

theorem State.raiseSlots_keeps (s : State) (n : Nat) :
    s.KeepsRegisterLaws { s with tallies := s.tallies.raiseSlots n } :=
  .of_tallies fun h => State.tallyLaw_of_set (i := 10) h rfl

/-! ### Runs at the loop port (R3 to R7, R57) -/

theorem State.pass_keeps (s : State) (n : Nat) : s.KeepsRegisterLaws (s.pass n) :=
  .of_registers (by simp [State.registers])

theorem State.heard_keeps (s : State) (gap : Nat) (p : Parcel) : s.KeepsRegisterLaws (s.heard gap p) :=
  s.pass_keeps _

theorem State.enqueue_keeps (s : State) (bytes : List Byte) (waited : Nat) :
    s.KeepsRegisterLaws (s.enqueue bytes waited) := .of_registers rfl

theorem State.discardRun_keeps (s : State) : s.KeepsRegisterLaws s.discardRun := .of_registers rfl

theorem State.forward_keeps (s : State) (p : Parcel) : s.KeepsRegisterLaws (s.forward p) := s.enqueue_keeps _ _

/-- An UNNUMBERED node has no number to be out of range (R23). -/
theorem State.unnumber_keeps (s : State) :
    s.KeepsRegisterLaws { s with loop := { s.loop with loopState := .unnumbered } } :=
  .of_loopState fun _ h => absurd h (by simp)

theorem cutOverlong_keeps (run : List Byte) (s : State) : s.KeepsRegisterLaws (cutOverlong run s) :=
  (s.raiseFraming_keeps.trans (State.enqueue_keeps _ _ _)).trans (State.discardRun_keeps _)

/-- A parcel queued for loop-out with its disposition counted (R57). -/
theorem State.dispose_keeps (s : State) (d : Disposition) (p : Parcel) : s.KeepsRegisterLaws (s.dispose d p) := by
  have counted : s.KeepsRegisterLaws { s with tallies := s.tallies.disposed d } :=
    .of_tallies fun h => State.tallyLaw_of_set (i := d.code.toNat - 1)
      (n := s.tallies.counts.getD (d.code.toNat - 1) 0 + 1) h (by cases d <;> rfl)
  exact counted.trans (State.forward_keeps _ _)

/-! ### The fault list (R164 to R166) -/

theorem State.offerFault_keeps (s : State) (c : FaultCause) : s.KeepsRegisterLaws (s.offerFault c) := by
  refine .of_replies fun ⟨hlist, hlost⟩ => ?_
  rcases s.replies.offerFault_cases c with ⟨hroom, h⟩ | ⟨_, h⟩ <;> rw [h]
  · exact ⟨by simp; omega, Nat.zero_le _⟩
  · exact ⟨hlist, Nat.min_le_right _ _⟩

theorem ReplyUnit.place_lostFaults {r r' : ReplyUnit} {n : Byte} {item : Item} (h : r.place n = some (item, r')) :
    r'.lostFaults = r.lostFaults := by
  rcases ReplyUnit.place_cases h with ⟨_, rfl⟩ | ⟨_, _, _, _, rfl⟩ | ⟨_, _, _, _, rfl⟩ <;> rfl

theorem fillSlots_lostFaults (node : BitVec 5) (n : Byte) (k : Nat) (bytes : List Byte) (r : ReplyUnit) :
    (fillSlots node n k bytes r).2.1.lostFaults = r.lostFaults := by
  induction k generalizing bytes r with
  | zero => rfl
  | succ k ih =>
    cases hb : (bytes.headD 0#8).msb with
    | true => rw [fillSlots_filled hb]; exact ih _ _
    | false =>
      cases hp : r.place n with
      | none => rw [fillSlots_exhausted hb hp]
      | some next =>
        rw [fillSlots_placed hb hp]
        exact (ih _ _).trans (ReplyUnit.place_lostFaults hp)

theorem ReplyUnit.SameItems.faults_length {r r' : ReplyUnit} (h : r.SameItems r') :
    r'.faults.length = r.faults.length := by
  simpa using congrArg List.length h.2.1

/-- A sweep adds no fault record and leaves the lost-fault count (R153 to R156). -/
theorem ReplyUnit.sweep_faults (r : ReplyUnit) (node : BitVec 5) (field : Word) (slots : List Byte) :
    (r.sweep node field slots).2.1.faults.length ≤ r.faults.length
    ∧ (r.sweep node field slots).2.1.lostFaults = r.lostFaults := by
  have released : (r.release (confirmNumber field)).faults.length ≤ r.faults.length := List.length_filter_le _ _
  have filled := fun ready : ReplyUnit =>
    (fillSlots_sameItems node (sweepNumber field) (slots.length / 36) slots ready).faults_length
  simp only [ReplyUnit.sweep, filled, fillSlots_lostFaults]
  split
  · exact ⟨by simpa [ReplyUnit.resend] using released, rfl⟩
  · exact ⟨released, rfl⟩

theorem State.takeSweep_keeps (s : State) (field : Word) (slots : List Byte) :
    s.KeepsRegisterLaws (s.takeSweep field slots) := by
  obtain ⟨hlist, hlost⟩ := s.replies.sweep_faults (nodeNumber s.loop.loopState) field slots
  have swept : s.KeepsRegisterLaws
      { s with replies := (s.replies.sweep (nodeNumber s.loop.loopState) field slots).2.1 } :=
    .of_replies fun h => ⟨hlist.trans h.1, hlost.trans_le h.2⟩
  exact swept.trans (State.raiseSlots_keeps _ _)

/-! ### The gate (R141 to R143) -/

theorem State.gateWrite_keeps (s : State) (heldBit : Bool) :
    s.KeepsRegisterLaws { s with gate := s.gate.write heldBit } := by
  refine .of_gate fun h => ?_
  unfold Gate.write
  split
  · exact ⟨Nat.zero_le _, fun _ => rfl⟩
  · exact ⟨Nat.zero_le _, fun _ => rfl⟩
  · exact h

theorem State.gateStep_keeps (s : State) (c : Nat) : s.KeepsRegisterLaws { s with gate := s.gate.step c } := by
  refine .of_gate fun h => ?_
  unfold Gate.step
  split
  · exact h
  · next hm => exact ⟨Nat.min_le_right _ _, fun ho => by simp [hm] at ho⟩

theorem State.gateUse_keeps (s : State) : s.KeepsRegisterLaws { s with gate := s.gate.use } := by
  refine .of_gate fun h => ?_
  unfold Gate.use
  split
  · exact h
  · next hm => exact ⟨(Nat.sub_le _ _).trans h.1, fun ho => by simp [hm] at ho⟩

/-- Clearing the credits keeps the gate's law whatever its mode (R134). -/
theorem State.clearCredits_keeps (s : State) : s.KeepsRegisterLaws { s with gate := { s.gate with credits := 0 } } :=
  .of_gate fun _ => ⟨Nat.zero_le _, fun _ => rfl⟩

/-! ### Issue, edges and the end of an operation (R82, R87 to R91, R126 to R131) -/

theorem State.accountStaged_registers (s : State) (g : BitVec 3) (tag : Byte) (o : Ending) :
    (s.accountStaged g tag o).registers = s.registers := by
  unfold State.accountStaged
  simp only
  split <;> rfl

theorem State.account_keeps (s : State) (e : Entry) (op : Operation) (o : Ending) :
    s.KeepsRegisterLaws (s.account e op o) := by
  cases o with
  | ok =>
    simp only [State.account]
    split
    · exact .of_registers rfl
    · exact .refl s
    · exact .of_registers (s.accountStaged_registers _ _ _)
  | failed st =>
    simp only [State.account]
    split
    · exact .of_registers rfl
    · exact s.offerFault_keeps _
    · exact .of_registers (s.accountStaged_registers _ _ _)

theorem State.finish_keeps {s : State} (hs : s.executor ≠ .reset) (op : Operation) (o : Ending) :
    s.KeepsRegisterLaws (s.finish op o) := by
  have idled : s.KeepsRegisterLaws (s.enter .idle) := .of_enter_ne_reset hs nofun
  unfold State.finish
  split
  · exact idled
  · next e _ =>
    have left : s.KeepsRegisterLaws ({ s with journal := s.journal.eraseP Entry.isIssued }.enter .idle) :=
      idled.trans (.of_registers rfl)
    exact left.trans (State.account_keeps _ e op o)

theorem State.issueAt_keeps {s : State} (hs : s.executor = .idle) (k : Nat) (e : Entry) :
    s.KeepsRegisterLaws (s.issueAt k e) := by
  have used : s.KeepsRegisterLaws { s with journal := s.journal.set k { e with state := .issued }, gate := s.gate.use } :=
    s.gateUse_keeps.trans (.of_registers rfl)
  refine used.trans (.of_enter_ne_reset ?_ nofun)
  simp [hs]

theorem State.requestEdge_keeps {s : State} {op : Operation} (hs : s.executor = .requesting op) (lgnt : Bool) :
    s.KeepsRegisterLaws (s.requestEdge op lgnt) := by
  have hreset : s.executor ≠ .reset := by simp [hs]
  unfold State.requestEdge
  split
  · exact .of_enter_ne_reset hreset nofun
  · split
    · exact State.finish_keeps hreset _ _
    · exact .of_enter_ne_reset hreset nofun

theorem State.beatEdge_keeps {s : State} {op : Operation} (hs : s.executor = .transferring op) (lgnt lerr lwait : Bool)
    (ld : BitVec 64) : s.KeepsRegisterLaws (s.beatEdge op lgnt lerr lwait ld) := by
  have hreset : s.executor ≠ .reset := by simp [hs]
  have finished : ∀ op' o, s.KeepsRegisterLaws (s.finish op' o) := State.finish_keeps hreset
  have goesOn : ∀ op', s.KeepsRegisterLaws (s.enter (.transferring op')) := fun _ => .of_enter_ne_reset hreset nofun
  simp only [State.beatEdge, State.stretch, State.beatDone]
  split
  · exact finished _ _
  · split
    · exact finished _ _
    · split
      · split
        · exact finished _ _
        · exact goesOn _
      · split
        · exact finished _ _
        · exact goesOn _

/-! ### Local reset (R134 to R137) -/

/-- A local reset that leaves the executor in RESET exactly when it leaves LRST# low. -/
theorem State.localReset_keeps (s : State) (x : Executor) (low : Bool) (h : s.lrstLaw → (x = .reset ↔ low = true)) :
    s.KeepsRegisterLaws ({ s.localResetSequence with lrstLow := low }.enter x) where
  gate := s.clearCredits_keeps.gate
  pins _ _ := rfl
  lrst := h
  number := id
  tally := id
  fault := (State.offerFault_keeps
    { s with replies := { s.replies with
        queue := s.replies.queue ++ s.abandonedReplies
        reservations := s.replies.reservations - s.abandonedReplies.length } } _).fault
  running := id

theorem State.localResetCommand_keeps (s : State) : s.KeepsRegisterLaws s.localResetCommand := by
  unfold State.localResetCommand
  split
  · next hheld =>
    exact s.localReset_keeps .reset s.lrstLow fun h => iff_of_true rfl (h.mp (by simpa [State.localHeld] using hheld))
  · next hheld =>
    exact s.localReset_keeps .idle s.lrstLow fun h =>
      iff_of_false nofun fun hlow => hheld (by simpa [State.localHeld] using h.mpr hlow)

/-! ### Loop reset and power (R32, R34, R137) -/

theorem executorFor_reset (lrstLow : Bool) : executorFor lrstLow = .reset ↔ lrstLow = true := by
  cases lrstLow <;> simp [executorFor]

theorem State.loopReset_registerLaws (s : State) : s.loopReset.RegisterLaws where
  gate := ⟨Nat.zero_le _, fun _ => rfl⟩
  pins _ := rfl
  lrst := executorFor_reset s.lrstLow
  number _ := nofun
  tally := Tallies.zero_counts
  fault := ⟨Nat.zero_le _, Nat.zero_le _⟩

theorem State.loopReset_keeps (s : State) : s.KeepsRegisterLaws s.loopReset := .of_laws s.loopReset_registerLaws id

theorem State.powerOn_keeps (s : State) (lrstHigh lfiHigh : Bool) :
    s.KeepsRegisterLaws (s.powerOn lrstHigh lfiHigh) :=
  .of_laws (State.loopReset_registerLaws _) fun _ => ⟨rfl, rfl⟩

theorem State.powerFail_registerLaws {s : State} (hp : s.powered = true) : s.powerFail.RegisterLaws := by
  obtain ⟨hgate, _, hlrst, hnumber, htally, hfault⟩ := State.loopReset_registerLaws
    { s with powered := true, lrstLow := false, loop := { LoopPort.atReset with discarding := false } }
  rw [State.powerFail_powered hp]
  exact ⟨hgate, nofun, hlrst, hnumber, htally, hfault⟩

/-! ### Taken work (R26, R50 to R56) -/

theorem State.command_keeps (s : State) (value : Nat) : s.KeepsRegisterLaws (s.command value) := by
  unfold State.command
  split
  · exact .of_registers rfl
  · exact .of_registers rfl
  · exact .of_tallies fun _ => Tallies.zero_counts
  · exact s.localResetCommand_keeps
  · exact .refl s

theorem State.applyWord_keeps (s : State) (a : Nat) (x : Word) : s.KeepsRegisterLaws (s.applyWord a x) := by
  unfold State.applyWord
  split
  · exact s.gateWrite_keeps _
  · split
    · exact .of_registers rfl
    · split
      · exact s.command_keeps _
      · exact .of_registers rfl

theorem State.applyWords_keeps (s : State) (words : List (Nat × Word)) : s.KeepsRegisterLaws (s.applyWords words) := by
  induction words generalizing s with
  | nil => exact .refl s
  | cons w words ih => exact (s.applyWord_keeps w.1 w.2).trans (ih _)

theorem State.commitGroup_registers (s : State) (g : BitVec 3) (tag : Byte) :
    (s.commitGroup g tag).registers = s.registers := by
  unfold State.commitGroup
  split <;> rfl

theorem State.discardGroup_registers (s : State) (g : BitVec 3) (tag : Byte) :
    (s.discardGroup g tag).registers = s.registers := by
  unfold State.discardGroup
  split <;> rfl

/-- The number of a NUMBER that passes the form check is not 0 (R41). -/
theorem number_ne_zero {p : Parcel} {v : Word} (hform : p.formOk = true) (hw : p.work = .number v) : v ≠ 0#32 := by
  have hcontent : p.contentOk = true := (Bool.and_eq_true_iff.mp hform).2
  unfold Parcel.work at hw
  split at hw
  case h_8 hk =>
    cases hw
    simpa [Parcel.contentOk, hk] using hcontent
  case h_1 | h_2 => split at hw <;> cases hw
  all_goals cases hw

/-- What the owning block does with taken work keeps the laws. -/
theorem State.handOn_keeps (s : State) {p : Parcel} (hform : p.formOk = true) (hn : p.work.unnumbers = false) :
    s.KeepsRegisterLaws (s.handOn p.tag p.work) := by
  cases hw : p.work with
  | commit g => exact .of_registers (s.commitGroup_registers g _)
  | discard g => exact .of_registers (s.discardGroup_registers g _)
  | sweep field slots => exact s.takeSweep_keeps field slots
  | step c => exact s.gateStep_keeps c
  | number v =>
    have hzero : v ≠ 0#32 := number_ne_zero hform hw
    have hmax : v.toNat < 31 := by simpa [hw, Work.unnumbers] using hn
    have hnumber : (v.setWidth 5).toNat = v.toNat := by
      rw [BitVec.toNat_setWidth]
      omega
    refine .of_loopState fun n h => ?_
    obtain rfl := LoopState.numbered.inj h
    rw [hnumber]
    exact ⟨by bv_omega, by omega⟩
  | loopReset => exact s.loopReset_keeps
  | controlWrite words => exact s.applyWords_keeps words
  | _ => exact .of_registers rfl

/-! ### Every happening -/

/-- Whatever happens but the loss of a supply, each register law is kept. -/
theorem keepsRegisterLaws_of_happening {s t : State} (ht : Happening s t) (hf : t ≠ s.powerFail) :
    s.KeepsRegisterLaws t := by
  cases ht with
  | stays => exact .refl s
  | passes n => exact s.pass_keeps n
  | discardingEnds n => exact (s.pass_keeps n).trans (.of_registers rfl)
  | drops n => exact ((s.pass_keeps n).trans (State.raiseFraming_keeps _)).trans (State.discardRun_keeps _)
  | cuts gap run => exact (s.pass_keeps _).trans (cutOverlong_keeps run _)
  | misframed gap run => exact ((s.pass_keeps _).trans (State.raiseFraming_keeps _)).trans (State.enqueue_keeps _ _ _)
  | marksDamaged gap p =>
    exact ((s.heard_keeps gap p).trans (State.raiseDamaged_keeps _)).trans (State.forward_keeps _ _)
  | forwards gap p => exact (s.heard_keeps gap p).trans (State.forward_keeps _ p)
  | refuses gap p d => exact (s.heard_keeps gap p).trans (State.dispose_keeps _ d p)
  | unnumbers gap p => exact ((s.heard_keeps gap p).trans (State.unnumber_keeps _)).trans (State.forward_keeps _ p)
  | takesBroadcast gap p _ _ _ taken numbers =>
    have worked := State.handOn_keeps (s.heard gap p) (State.judge_taken.mp taken).1 numbers
    exact ((s.heard_keeps gap p).trans worked).trans (State.forward_keeps _ _)
  | takesUnicast gap p _ _ _ taken numbers =>
    have worked := State.handOn_keeps (s.heard gap p) (State.judge_taken.mp taken).1 numbers
    exact ((s.heard_keeps gap p).trans worked).trans (State.dispose_keeps _ _ _)
  | powersOn lrstHigh lfiHigh => exact s.powerOn_keeps lrstHigh lfiHigh
  | powerFails => exact absurd rfl hf
  | issues k e _ idle => exact State.issueAt_keeps idle k e
  | requestEdge op lgnt _ executor => exact State.requestEdge_keeps executor lgnt
  | beatEdge op lgnt lerr lwait ld _ executor => exact State.beatEdge_keeps executor lgnt lerr lwait ld
  | lrstFalls => exact s.localReset_keeps .reset true fun _ => iff_of_true rfl rfl
  | lrstRises => exact ⟨id, fun _ _ => rfl, fun _ => iff_of_false nofun nofun, id, id, id, id⟩
  | lrstRisesUnheld _ low free =>
    have hfree : s.executor ≠ .reset := by simpa [State.localHeld] using free
    exact ⟨id, id, fun h => absurd (h.mpr low) hfree, id, id, id, id⟩
  | attnRises => exact .of_registers rfl

/-! ### LCO and the pins in power-on reset (R34) -/

theorem State.portLaw_of_running {s : State} (h : s.powered = true ∧ s.loop.lco = .running) : s.portLaw :=
  ⟨iff_of_true h.2 h.1, fun hp => by simp [h.1] at hp⟩

theorem State.powerFail_portLaw {s : State} (hp : s.powered = true) : s.powerFail.portLaw := by
  rw [State.powerFail_powered hp]
  exact ⟨iff_of_false nofun nofun, fun _ => ⟨rfl, rfl, rfl, rfl⟩⟩

/-- Every step keeps the law of LCO and of the pins in power-on reset: only POWER_ON ends power-on reset, and only the loss
of a supply stops LCO. -/
theorem step_portLaw {s t : State} (h : s.portLaw) (hstep : step s = .next t) : t.portLaw := by
  cases hp : s.powered with
  | false =>
    rcases step_unpowered hp hstep with rfl | ⟨a, b, rfl⟩
    · exact h
    · exact State.portLaw_of_running ⟨rfl, rfl⟩
  | true =>
    by_cases hf : t = State.powerFail { s with pending := s.pending.tail }
    · rw [hf]
      exact State.powerFail_portLaw hp
    · exact State.portLaw_of_running
        ((keepsRegisterLaws_of_happening (step_happening hstep) hf).running ⟨hp, h.1.mpr hp⟩)

/-- After a step each register law that does not turn on the supplies holds if it held before, or whatever stood before. -/
theorem step_registerLaws {s t : State} (hstep : step s = .next t) : t.RegisterLaws ∨ s.KeepsRegisterLaws t := by
  have queue : s.KeepsRegisterLaws { s with pending := s.pending.tail } := .of_registers rfl
  by_cases hf : t = State.powerFail { s with pending := s.pending.tail }
  · cases hp : s.powered with
    | true => exact .inl (hf ▸ State.powerFail_registerLaws hp)
    | false =>
      rw [State.powerFail, if_neg (by simp [hp])] at hf
      exact .inr (hf ▸ queue)
  · exact .inr (queue.trans (keepsRegisterLaws_of_happening (step_happening hstep) hf))

end Sys2Proof.Machine

namespace Sys2Proof.Proofs

open Sys2Proof.Machine

/-- Settles O55, by cases on what a step does. -/
theorem everyStepKeepsTheRegisterLaws : Obligations.EveryStepKeepsTheRegisterLaws := by
  intro s t hstep
  have port : s.portLaw → t.portLaw := fun h => step_portLaw h hstep
  rcases step_registerLaws hstep with h | h
  · exact ⟨fun _ => h.gate, fun _ => h.pins, port, fun _ => h.lrst, fun _ => h.number, fun _ => h.tally,
      fun _ => h.fault⟩
  · exact ⟨h.gate, h.pins, port, h.lrst, h.number, h.tally, h.fault⟩

end Sys2Proof.Proofs
end

section
/-! PROOFS. A good parcel at Intake: whose it is, the seven checks in their order, and what an own unicast parcel then does
(R36 to R40). -/

set_option Elab.async false

namespace Sys2Proof

theorem Parcel.broadcast_iff {p : Parcel} : p.broadcast = true ↔ p.dest = 31#5 := by simp [Parcel.broadcast]

/-! ### The header form check (R40, Table 1-1) -/

theorem kind_cases : ∀ kind : BitVec 4, (kind = 0#4 ∨ 10 ≤ kind.toNat) ∨ kind = 1#4 ∨ kind = 2#4 ∨ kind = 3#4
    ∨ kind = 4#4 ∨ kind = 5#4 ∨ kind = 6#4 ∨ kind = 7#4 ∨ kind = 8#4 ∨ kind = 9#4 := by
  decide

/-- No kind but 1 to 9 passes the header form check. -/
theorem Parcel.headerOk_unlisted {p : Parcel} (h : p.kind = 0#4 ∨ 10 ≤ p.kind.toNat) : p.headerOk = false := by
  have hk : p.kind.toNat = 0 ∨ 10 ≤ p.kind.toNat := h.imp_left fun h => by rw [h]; rfl
  unfold Parcel.headerOk
  split
  case h_10 => exact Bool.and_false _
  all_goals omega

theorem Parcel.lengthIn_iff {p : Parcel} {low high : Nat} :
    p.lengthIn low high = true ↔ low ≤ p.payload.length ∧ p.payload.length ≤ high := by
  simp [Parcel.lengthIn]

theorem Parcel.lengthIn_same {p : Parcel} {n : Nat} : p.lengthIn n n = true ↔ p.payload.length = n := by
  rw [Parcel.lengthIn_iff]
  omega

/-- One to four whole slots. -/
theorem sweepLength_iff {n : Nat} : 36 ≤ n ∧ n ≤ 144 ∧ n % 36 = 0 ↔ n ∈ [36, 72, 108, 144] := by
  simp only [List.mem_cons, List.not_mem_nil, or_false]
  omega

/-! What the header form check asks, row by row of Table 1-1. -/

theorem Parcel.headerOk_read {p : Parcel} (h : p.kind = 1#4) :
    p.headerOk = true ↔ p.zeros = 0#2 ∧ p.dest ≠ 0#5 ∧ p.dest ≠ 31#5 ∧ p.payload.length = 1 := by
  simp [Parcel.headerOk, h, Parcel.broadcast, Parcel.lengthIn_same, and_assoc]

theorem Parcel.headerOk_controlWrite {p : Parcel} (h : p.kind = 2#4 ∧ p.control = true) :
    p.headerOk = true ↔ p.zeros = 0#2 ∧ p.dest ≠ 0#5 ∧ p.dest ≠ 31#5 ∧
      4 ≤ p.payload.length ∧ p.payload.length ≤ 64 ∧ p.payload.length % 4 = 0 := by
  simp [Parcel.headerOk, h, Parcel.broadcast, Parcel.lengthIn_iff, and_assoc]

theorem Parcel.headerOk_memoryWrite {p : Parcel} (h : p.kind = 2#4 ∧ p.control = false) :
    p.headerOk = true ↔ p.zeros = 0#2 ∧ p.dest ≠ 0#5 ∧ p.dest ≠ 31#5 ∧
      1 ≤ p.payload.length ∧ p.payload.length ≤ 64 := by
  simp [Parcel.headerOk, h, Parcel.broadcast, Parcel.lengthIn_iff, and_assoc]

theorem Parcel.headerOk_stage {p : Parcel} (h : p.kind = 3#4) :
    p.headerOk = true ↔ p.zeros = 0#2 ∧ p.dest ≠ 0#5 ∧ p.dest ≠ 31#5 ∧ p.control = false ∧
      1 ≤ p.payload.length ∧ p.payload.length ≤ 64 := by
  simp [Parcel.headerOk, h, Parcel.broadcast, Parcel.lengthIn_iff, and_assoc]

theorem Parcel.headerOk_commitDiscard {p : Parcel} (h : p.kind = 4#4 ∨ p.kind = 5#4) :
    p.headerOk = true ↔ p.zeros = 0#2 ∧ p.dest ≠ 0#5 ∧ p.control = false ∧ p.payload.length = 0 := by
  rcases h with h | h <;> simp [Parcel.headerOk, h, Parcel.lengthIn_same, and_assoc]

theorem Parcel.headerOk_sweep {p : Parcel} (h : p.kind = 6#4) :
    p.headerOk = true ↔ p.zeros = 0#2 ∧ p.dest ≠ 0#5 ∧ p.dest = 31#5 ∧ p.control = false ∧
      p.payload.length ∈ [36, 72, 108, 144] := by
  rw [← sweepLength_iff]
  simp [Parcel.headerOk, h, Parcel.broadcast, Parcel.lengthIn_iff, and_assoc]

theorem Parcel.headerOk_step {p : Parcel} (h : p.kind = 7#4) :
    p.headerOk = true ↔ p.zeros = 0#2 ∧ p.dest ≠ 0#5 ∧ p.control = false ∧ p.payload.length = 1 := by
  simp [Parcel.headerOk, h, Parcel.lengthIn_same, and_assoc]

theorem Parcel.headerOk_numberLoopReset {p : Parcel} (h : p.kind = 8#4 ∨ p.kind = 9#4) :
    p.headerOk = true ↔ p.zeros = 0#2 ∧ p.dest ≠ 0#5 ∧ p.dest = 31#5 ∧ p.control = false ∧
      p.payload.length = 0 := by
  rcases h with h | h <;> simp [Parcel.headerOk, h, Parcel.broadcast, Parcel.lengthIn_same, and_assoc]

end Sys2Proof

namespace Sys2Proof.Machine

/-! ### Whose parcel it is (R36, R37) -/

/-- A unicast parcel is the node's own by its number and MARK 0 (R36). -/
theorem State.owns_unicast {s : State} {p : Parcel} (hb : p.dest ≠ 31#5) :
    s.owns p = true ↔ p.dest ≠ 0#5 ∧ s.loop.loopState = .numbered p.dest ∧ p.mark = 0#8 := by
  simp [State.owns, Parcel.broadcast, hb, and_assoc]

/-- The kinds that a NUMBERED node takes from a broadcast (R37). -/
theorem broadcastKind_iff : ∀ kind : BitVec 4,
    4 ≤ kind.toNat ∧ kind.toNat ≤ 9 ↔ kind ∈ [8#4, 9#4] ∨ kind ∈ [4#4, 5#4, 6#4, 7#4] := by
  decide

/-- A broadcast is the node's own by its kind and the loop state (R37). -/
theorem State.owns_broadcast {s : State} {p : Parcel} (hb : p.dest = 31#5) :
    s.owns p = true ↔
      p.kind ∈ [8#4, 9#4] ∨ (∃ n, s.loop.loopState = .numbered n) ∧ p.kind ∈ [4#4, 5#4, 6#4, 7#4] := by
  cases hl : s.loop.loopState with
  | unnumbered => simp [State.owns, Parcel.broadcast, hb, hl]
  | numbered n =>
    have hkind := broadcastKind_iff p.kind
    simp only [State.owns, Parcel.broadcast_iff.mpr hb, if_true, hl, Bool.and_eq_true, decide_eq_true_eq, hkind,
      LoopState.numbered.injEq, exists_eq', true_and]

/-- Byte times do not change whose a parcel is. -/
@[simp] theorem State.heard_owns (s : State) (gap : Nat) (p q : Parcel) : (s.heard gap p).owns q = s.owns q := by
  simp only [State.owns, State.heard_loopState]

/-- Byte times change no check. -/
@[simp] theorem State.heard_judge (s : State) (gap : Nat) (p q : Parcel) : (s.heard gap p).judge q = s.judge q := rfl

/-! ### The checks in their order (R39) -/

/-- The seven checks of a parcel, each with the code it gives, in the order of R39. -/
def State.checks (s : State) (p : Parcel) : List (Bool × Disposition) :=
  [(!p.formOk, .refusedForm), (p.work.needsLocal && s.localHeld, .refusedLocal), (s.windowFails p.work, .refusedWindow),
    (s.rightsFail p.work, .refusedRights), (s.groupFails p.work, .refusedGroup), (s.spaceFails p.work, .refusedFull),
    (s.contentsFail p.work, .refusedControl)]

/-- The code of the first check that fails, TAKEN where none does. -/
def firstFailing (checks : List (Bool × Disposition)) : Disposition :=
  ((checks.find? (·.1)).map (·.2)).getD .taken

theorem firstFailing_cons (fails : Bool) (d : Disposition) (checks : List (Bool × Disposition)) :
    firstFailing ((fails, d) :: checks) = if fails then d else firstFailing checks := by
  cases fails <;> rfl

/-- A parcel is judged by the first check that fails. -/
theorem State.judge_eq_firstFailing (s : State) (p : Parcel) : s.judge p = firstFailing (s.checks p) := by
  simp only [State.checks, firstFailing_cons]
  rfl

/-- No check that fails gives TAKEN. -/
theorem State.checks_ne_taken {s : State} {p : Parcel} {c : Bool × Disposition} (h : c ∈ s.checks p) : c.2 ≠ .taken := by
  have hcodes : (s.checks p).map (·.2) = [.refusedForm, .refusedLocal, .refusedWindow, .refusedRights, .refusedGroup,
    .refusedFull, .refusedControl] := rfl
  intro ht
  have hmem := List.mem_map_of_mem (f := (·.2)) h
  rw [hcodes, ht] at hmem
  exact absurd hmem (by decide)

/-- A parcel that fails the form check is judged by nothing else (R39). -/
theorem State.judge_malformed {s : State} {p : Parcel} (h : p.formOk = false) : s.judge p = .refusedForm := by
  simp [State.judge, h]

/-! ### An own unicast parcel (R38, R39, R57) -/

/-- A NUMBER is well made as a broadcast alone (Table 1-1). -/
theorem work_unnumbers_unicast {p : Parcel} (hb : p.broadcast = false) (hform : p.formOk = true) :
    p.work.unnumbers = false := by
  unfold Parcel.work
  split
  · split <;> rfl
  · split <;> rfl
  case h_8 hk => simp [Parcel.formOk, Parcel.headerOk, hk, hb] at hform
  all_goals rfl

/-- The command brings the node a good unicast parcel of its own, and loop-in receives it. -/
structure OwnUnicast (c : Instr) (gap : Nat) (p : Parcel) (s : State) : Prop where
  spelled : c.arrival = some (gap, p)
  hears : s.hears gap = true
  fits : p.payload.length ≤ 255
  good : p.damaged = false
  owned : s.owns p = true
  unicast : p.broadcast = false

/-- An own unicast parcel that is refused gets its code and changes nothing else (R39). -/
theorem OwnUnicast.exec_refused {c : Instr} {gap : Nat} {p : Parcel} {s : State} (h : OwnUnicast c gap p s)
    {d : Disposition} (hj : s.judge p = d) (hd : d ≠ .taken) : exec c s = .next ((s.heard gap p).dispose d p) := by
  subst hj
  have howns : (s.heard gap p).owns p = true := by rw [State.heard_owns, h.owned]
  have hjudge : (s.heard gap p).judge p ≠ .taken := by rwa [State.heard_judge]
  rw [exec_arrival h.spelled, State.arrive_heard h.hears h.fits h.good, State.intake_refused howns hjudge, h.unicast,
    State.heard_judge]
  rfl

/-- An own unicast parcel that passes every check has its work done and gets TAKEN (R57). -/
theorem OwnUnicast.exec_taken {c : Instr} {gap : Nat} {p : Parcel} {s : State} (h : OwnUnicast c gap p s)
    (hj : s.judge p = .taken) :
    exec c s = .next (((s.heard gap p).handOn p.tag p.work).dispose .taken p) := by
  have howns : (s.heard gap p).owns p = true := by rw [State.heard_owns, h.owned]
  have hjudge : (s.heard gap p).judge p = .taken := by rw [State.heard_judge, hj]
  have hnumber := work_unnumbers_unicast h.unicast (State.judge_taken.mp hj).1
  rw [exec_arrival h.spelled, State.arrive_heard h.hears h.fits h.good, State.intake_taken howns hjudge,
    h.unicast, hnumber]
  rfl

/-- A unicast command whose envelope addresses the node brings it a parcel of its own (R36). -/
theorem OwnUnicast.of_addressed {c : Instr} {e : Envelope} {kind : BitVec 4} {control : Bool} {a : Word}
    {payload : List Byte} {s : State} (hc : c.arrival = some (e.gap, e.parcel kind control a payload))
    (hh : s.hears e.gap = true) (ha : s.addressed e = true) (hl : payload.length ≤ 255) :
    OwnUnicast c e.gap (e.parcel kind control a payload) s where
  spelled := hc
  hears := hh
  fits := hl
  good := rfl
  owned := State.owns_of_addressed ha kind control a payload
  unicast := by
    obtain ⟨_, _, hall, _⟩ := State.addressed_iff.mp ha
    simp [Parcel.broadcast, Envelope.parcel, hall]

/-! ### NOT_OWN_PARCEL and MALFORMED_PARCEL spell the parcel given -/

theorem arrival_notOwnParcel {p : Parcel} (hd : p.damaged = false) (gap : Nat) :
    (Instr.notOwnParcel gap p).arrival = some (gap, p) := by
  rw [Instr.arrival, ← hd]

theorem arrival_malformedParcel {p : Parcel} (hd : p.damaged = false) (gap : Nat) :
    (Instr.malformedParcel gap p).arrival = some (gap, p) := by
  rw [Instr.arrival, ← hd]

end Sys2Proof.Machine

namespace Sys2Proof.Proofs

open Sys2Proof.Machine

/-- Settles O13, DEST by DEST. -/
theorem whoseParcelItIs : Obligations.WhoseParcelItIs := by
  refine fun s p => ⟨fun hzero => ?_, fun hzero hall => ?_, State.owns_broadcast⟩
  · have hall : p.dest ≠ 31#5 := by simp [hzero]
    rw [← Bool.not_eq_true, State.owns_unicast hall]
    exact fun h => h.1 hzero
  · rw [State.owns_unicast hall]
    exact and_iff_right hzero

/-- Settles O14: Intake forwards the parcel, and any other command that spells it brings the same arrival. -/
theorem notOwnParcelIsForwardedUntouched : Obligations.NotOwnParcelIsForwardedUntouched := by
  intro s gap p hh hl hd hfree
  have hspelled := arrival_notOwnParcel hd gap
  refine ⟨?_, fun c hc => by rw [exec_arrival hc, exec_arrival hspelled]⟩
  have hforward : (s.heard gap p).intake p = (s.heard gap p).forward p := by
    cases ho : s.owns p with
    | false => exact State.intake_foreign (by rw [State.heard_owns, ho])
    | true =>
      obtain ⟨hb, hj⟩ := hfree.resolve_left (by simp [ho])
      have howns : (s.heard gap p).owns p = true := by rw [State.heard_owns, ho]
      rw [State.intake_refused howns hj, if_pos hb]
  rw [exec_arrival hspelled, State.arrive_heard hh hl hd, hforward]
  rfl

/-- Settles O15: the failing cases row by row of Table 1-1, and a header that fails it decides before every other check. -/
theorem malformedHeaderIsRefused : Obligations.MalformedHeaderIsRefused := by
  refine ⟨fun p => ?_, fun s gap p hh hl hd hs hzero hall hm hheader => ?_⟩
  · rcases kind_cases p.kind with h | h | h | h | h | h | h | h | h | h
    · exact iff_of_true (Parcel.headerOk_unlisted h) (.inl h)
    all_goals rw [← Bool.not_eq_true]
    · rw [Parcel.headerOk_read h]
      simp [h, not_and_or, or_assoc, -not_and]
    · cases hc : p.control
      · rw [Parcel.headerOk_memoryWrite ⟨h, hc⟩]
        simp [h, not_and_or, or_assoc, -not_and]
      · rw [Parcel.headerOk_controlWrite ⟨h, hc⟩]
        simp [h, not_and_or, or_assoc, -not_and]
    · rw [Parcel.headerOk_stage h]
      simp [h, not_and_or, or_assoc, -not_and]
    · rw [Parcel.headerOk_commitDiscard (.inl h)]
      simp [h, not_and_or, -not_and]
    · rw [Parcel.headerOk_commitDiscard (.inr h)]
      simp [h, not_and_or, -not_and]
    · rw [Parcel.headerOk_sweep h]
      simp [h, not_and_or, or_assoc, -not_and]
    · rw [Parcel.headerOk_step h]
      simp [h, not_and_or, -not_and]
    · rw [Parcel.headerOk_numberLoopReset (.inl h)]
      simp [h, not_and_or, or_assoc, -not_and]
    · rw [Parcel.headerOk_numberLoopReset (.inr h)]
      simp [h, not_and_or, or_assoc, -not_and]
  · have own : OwnUnicast (.malformedParcel gap p) gap p s :=
      ⟨arrival_malformedParcel hd gap, hh, hl, hd, (State.owns_unicast hall).mpr ⟨hzero, hs, hm⟩,
        by rw [← Bool.not_eq_true, Parcel.broadcast_iff]; exact hall⟩
    exact own.exec_refused (State.judge_malformed (by simp [Parcel.formOk, hheader])) (by decide)

/-- Settles O16: the first check that fails gives the code, and passing all is being taken. -/
theorem firstFailingCheckDecides : Obligations.FirstFailingCheckDecides := by
  intro c gap p s hc hh hl hd ho hb
  have own : OwnUnicast c gap p s := ⟨hc, hh, hl, hd, ho, hb⟩
  split
  · next fails d hfind =>
    have hfind : (s.checks p).find? (·.1) = some (fails, d) := hfind
    refine own.exec_refused ?_ (State.checks_ne_taken (List.mem_of_find?_eq_some hfind))
    simp [State.judge_eq_firstFailing, firstFailing, hfind]
  · next hfind =>
    have hfind : (s.checks p).find? (·.1) = none := hfind
    exact own.exec_taken (by simp [State.judge_eq_firstFailing, firstFailing, hfind])

end Sys2Proof.Proofs
end

section
/-! PROOFS. Memory parcels, COMMIT and DISCARD at Intake: local side, window, rights, group and space, and the entry of a taken
access (R43 to R47, R50 to R52, R103). -/

set_option Elab.async false

namespace Sys2Proof.Machine

/-! ### The checks one by one (R43 to R47) -/

theorem State.localHeld_iff {s : State} : s.localHeld = true ↔ s.executor = .reset := by simp [State.localHeld]

theorem State.localHeld_false {s : State} (h : s.executor ≠ .reset) : s.localHeld = false := by
  simp [State.localHeld, h]

theorem State.spaceFails_iff {s : State} {w : Work} :
    s.spaceFails w = true ↔ w.needsJournal = true ∧ 32 ≤ s.journal.length
      ∨ w.needsReply = true ∧ 16 ≤ s.replies.queue.length + s.replies.reservations := by
  simp only [State.spaceFails, Bool.or_eq_true, Bool.and_eq_true, decide_eq_true_eq]
  rfl

/-- Past the rights check a parcel that is no control WRITE meets group and space alone (R39). -/
theorem State.judge_past_rights {s : State} {p : Parcel} (hform : p.formOk = true)
    (hlocal : (p.work.needsLocal && s.localHeld) = false) (hwindow : s.windowFails p.work = false)
    (hrights : s.rightsFail p.work = false) (hcontents : s.contentsFail p.work = false) :
    s.judge p = if s.groupFails p.work then .refusedGroup else if s.spaceFails p.work then .refusedFull else .taken := by
  simp [State.judge, hform, hlocal, hwindow, hrights, hcontents]

theorem formOk_of {p : Parcel} (hheader : p.headerOk = true) (hcontent : p.contentOk = true) : p.formOk = true := by
  rw [Parcel.formOk, hheader, hcontent]
  rfl

/-! ### Memory accesses (R43 to R45) -/

/-- The parcel is well made and asks for an access of `n` bytes at loop address `a` that needs the right `right`. -/
structure MemoryAccess (p : Parcel) (a n : Nat) (right : WindowEntry → Bool) : Prop where
  wellMade : p.formOk = true
  needsLocal : p.work.needsLocal = true
  access : p.work.access = some (a, n)
  rightIn : ∀ w, p.work.rightIn w = right w

/-- The local side is free, and the window found holds the access and carries the right (R43 to R45). -/
def State.Admits (s : State) (a n : Nat) (right : WindowEntry → Bool) : Prop :=
  s.executor ≠ .reset ∧ ∃ w, s.windows.lookup a = some w ∧ a + n ≤ w.loopBase + w.bytes ∧ right w = true

section
variable {s : State} {p : Parcel} {a n : Nat} {right : WindowEntry → Bool} {w : WindowEntry}

theorem MemoryAccess.windowFails_iff (h : MemoryAccess p a n right) :
    s.windowFails p.work = true ↔
      s.windows.lookup a = none ∨ ∃ w, s.windows.lookup a = some w ∧ w.loopBase + w.bytes < a + n := by
  simp only [State.windowFails, h.access]
  cases s.windows.lookup a <;> simp [WindowEntry.fits]

theorem MemoryAccess.rightsFail_eq (h : MemoryAccess p a n right) (hw : s.windows.lookup a = some w) :
    s.rightsFail p.work = !right w := by
  simp only [State.rightsFail, h.access, hw, h.rightIn]

theorem MemoryAccess.windowFails_false (h : MemoryAccess p a n right) (hw : s.windows.lookup a = some w)
    (hfits : a + n ≤ w.loopBase + w.bytes) : s.windowFails p.work = false := by
  rw [← Bool.not_eq_true, h.windowFails_iff]
  simpa [hw] using hfits

theorem MemoryAccess.contentsFail (h : MemoryAccess p a n right) : s.contentsFail p.work = false := by
  unfold State.contentsFail
  split
  · next hw => simpa [hw, Work.access] using h.access
  · rfl

theorem MemoryAccess.judge_held (h : MemoryAccess p a n right) (hx : s.executor = .reset) :
    s.judge p = .refusedLocal := by
  simp [State.judge, h.wellMade, h.needsLocal, State.localHeld_iff.mpr hx]

theorem MemoryAccess.judge_window (h : MemoryAccess p a n right) (hx : s.executor ≠ .reset)
    (hw : s.windows.lookup a = none ∨ ∃ w, s.windows.lookup a = some w ∧ w.loopBase + w.bytes < a + n) :
    s.judge p = .refusedWindow := by
  simp [State.judge, h.wellMade, State.localHeld_false hx, h.windowFails_iff.mpr hw]

theorem MemoryAccess.judge_rights (h : MemoryAccess p a n right) (hx : s.executor ≠ .reset)
    (hw : s.windows.lookup a = some w) (hfits : a + n ≤ w.loopBase + w.bytes) (hr : right w = false) :
    s.judge p = .refusedRights := by
  simp [State.judge, h.wellMade, State.localHeld_false hx, h.windowFails_false hw hfits, h.rightsFail_eq hw, hr]

/-- An access that a window admits meets group and space alone. -/
theorem MemoryAccess.judge_admitted (h : MemoryAccess p a n right) (hs : s.Admits a n right) :
    s.judge p = if s.groupFails p.work then .refusedGroup else if s.spaceFails p.work then .refusedFull else .taken := by
  obtain ⟨hx, w, hw, hfits, hr⟩ := hs
  exact State.judge_past_rights h.wellMade (by simp [State.localHeld_false hx]) (h.windowFails_false hw hfits)
    (by simp [h.rightsFail_eq hw, hr]) h.contentsFail

end

/-! ### The commands of an envelope that addresses the node -/

theorem work_memoryRead (e : Envelope) (a : Word) (n : Byte) :
    (e.parcel 1#4 false a [n]).work = .memoryRead a n.toNat := rfl

theorem work_memoryWrite (e : Envelope) (a : Word) (data : List Byte) :
    (e.parcel 2#4 false a data).work = .memoryWrite a data := rfl

theorem work_stage (e : Envelope) (a : Word) (data : List Byte) :
    (e.parcel 3#4 false a data).work = .stage e.group a data := rfl

theorem work_commit (e : Envelope) (a : Word) : (e.parcel 4#4 false a []).work = .commit e.group := rfl

theorem work_discard (e : Envelope) (a : Word) : (e.parcel 5#4 false a []).work = .discard e.group := rfl

theorem work_controlRead (e : Envelope) (a : Word) (n : Byte) :
    (e.parcel 1#4 true a [n]).work = .controlRead a.toNat (n.toNat / 4) := rfl

section
variable {s : State} {e : Envelope} (ha : s.addressed e = true) (a : Word)
include ha

theorem access_memoryRead {n : Byte} (hmin : 1 ≤ n.toNat) (hmax : n.toNat ≤ 32) :
    MemoryAccess (e.parcel 1#4 false a [n]) a.toNat n.toNat WindowEntry.r := by
  obtain ⟨_, hzero, hall, _⟩ := State.addressed_iff.mp ha
  refine ⟨formOk_of ((Parcel.headerOk_read rfl).mpr ⟨rfl, hzero, hall, rfl⟩) ?_, rfl, rfl, fun _ => rfl⟩
  simp [Parcel.contentOk, Envelope.parcel, Parcel.firstByte, hmin, hmax]

theorem access_memoryWrite {data : List Byte} (hmin : 1 ≤ data.length) (hmax : data.length ≤ 64) :
    MemoryAccess (e.parcel 2#4 false a data) a.toNat data.length WindowEntry.w := by
  obtain ⟨_, hzero, hall, _⟩ := State.addressed_iff.mp ha
  exact ⟨formOk_of ((Parcel.headerOk_memoryWrite ⟨rfl, rfl⟩).mpr ⟨rfl, hzero, hall, hmin, hmax⟩) rfl, rfl, rfl,
    fun _ => rfl⟩

theorem access_stage {data : List Byte} (hmin : 1 ≤ data.length) (hmax : data.length ≤ 64) :
    MemoryAccess (e.parcel 3#4 false a data) a.toNat data.length WindowEntry.s := by
  obtain ⟨_, hzero, hall, _⟩ := State.addressed_iff.mp ha
  exact ⟨formOk_of ((Parcel.headerOk_stage rfl).mpr ⟨rfl, hzero, hall, rfl, hmin, hmax⟩) rfl, rfl, rfl, fun _ => rfl⟩

theorem formOk_commit : (e.parcel 4#4 false a []).formOk = true := by
  obtain ⟨_, hzero, _, _⟩ := State.addressed_iff.mp ha
  exact formOk_of ((Parcel.headerOk_commitDiscard (.inl rfl)).mpr ⟨rfl, hzero, rfl, rfl⟩) rfl

theorem formOk_discard : (e.parcel 5#4 false a []).formOk = true := by
  obtain ⟨_, hzero, _, _⟩ := State.addressed_iff.mp ha
  exact formOk_of ((Parcel.headerOk_commitDiscard (.inr rfl)).mpr ⟨rfl, hzero, rfl, rfl⟩) rfl

/-- A COMMIT is refused while the local side is held (R43). -/
theorem State.judge_commit_held (hx : s.executor = .reset) : s.judge (e.parcel 4#4 false a []) = .refusedLocal := by
  have hlocal : (e.parcel 4#4 false a []).work.needsLocal = true := rfl
  simp [State.judge, formOk_commit ha, hlocal, State.localHeld_iff.mpr hx]

/-- A COMMIT meets its group, then the reply room (R46, R47). -/
theorem State.judge_commit (hx : s.executor ≠ .reset) : s.judge (e.parcel 4#4 false a []) =
    if (s.group e.group).state = .committing then .refusedGroup
    else if 16 ≤ s.replies.queue.length + s.replies.reservations then .refusedFull else .taken := by
  rw [State.judge_past_rights (formOk_commit ha a) (by simp [State.localHeld_false hx]) rfl rfl rfl]
  simp [work_commit, State.groupFails, Work.groupOf, State.spaceFails_iff, Work.needsJournal, Work.needsReply,
    Work.access]

/-- A DISCARD meets its group, then the reply room, in RESET or not (R46, R47). -/
theorem State.judge_discard : s.judge (e.parcel 5#4 false a []) =
    if (s.group e.group).state = .committing then .refusedGroup
    else if 16 ≤ s.replies.queue.length + s.replies.reservations then .refusedFull else .taken := by
  rw [State.judge_past_rights (formOk_discard ha a) rfl rfl rfl rfl]
  simp [work_discard, State.groupFails, Work.groupOf, State.spaceFails_iff, Work.needsJournal, Work.needsReply,
    Work.access]

theorem formOk_controlRead {n : Byte} (hmin : 4 ≤ n.toNat) (hmax : n.toNat ≤ 32) (hwhole : n.toNat % 4 = 0)
    (hrange : controlRangeOk a.toNat (n.toNat / 4) = true) : (e.parcel 1#4 true a [n]).formOk = true := by
  obtain ⟨_, hzero, hall, _⟩ := State.addressed_iff.mp ha
  refine formOk_of ((Parcel.headerOk_read rfl).mpr ⟨rfl, hzero, hall, rfl⟩) ?_
  simp [Parcel.contentOk, Envelope.parcel, Parcel.firstByte, hmin, hmax, hwhole, hrange]

/-- A control READ meets the reply room alone, in RESET or not (R47). -/
theorem State.judge_controlRead {n : Byte} (hmin : 4 ≤ n.toNat) (hmax : n.toNat ≤ 32) (hwhole : n.toNat % 4 = 0)
    (hrange : controlRangeOk a.toNat (n.toNat / 4) = true) : s.judge (e.parcel 1#4 true a [n]) =
      if 16 ≤ s.replies.queue.length + s.replies.reservations then .refusedFull else .taken := by
  rw [State.judge_past_rights (formOk_controlRead ha a hmin hmax hwhole hrange) rfl rfl rfl rfl]
  simp [work_controlRead, State.groupFails, Work.groupOf, State.spaceFails_iff, Work.needsJournal, Work.needsReply,
    Work.access]

/-- A memory READ that a window admits meets the journal's room and the reply room (R47). -/
theorem State.judge_memoryRead {n : Byte} (hmin : 1 ≤ n.toNat) (hmax : n.toNat ≤ 32)
    (hs : s.Admits a.toNat n.toNat WindowEntry.r) : s.judge (e.parcel 1#4 false a [n]) =
      if 32 ≤ s.journal.length ∨ 16 ≤ s.replies.queue.length + s.replies.reservations then .refusedFull else .taken := by
  rw [(access_memoryRead ha a hmin hmax).judge_admitted hs]
  simp [work_memoryRead, State.groupFails, Work.groupOf, State.spaceFails_iff, Work.needsJournal, Work.needsReply,
    Work.access]

/-- A memory WRITE that a window admits meets the journal's room alone (R47). -/
theorem State.judge_memoryWrite {data : List Byte} (hmin : 1 ≤ data.length) (hmax : data.length ≤ 64)
    (hs : s.Admits a.toNat data.length WindowEntry.w) : s.judge (e.parcel 2#4 false a data) =
      if 32 ≤ s.journal.length then .refusedFull else .taken := by
  rw [(access_memoryWrite ha a hmin hmax).judge_admitted hs]
  simp [work_memoryWrite, State.groupFails, Work.groupOf, State.spaceFails_iff, Work.needsJournal, Work.needsReply,
    Work.access]

/-- A STAGE that a window admits meets its group, then the journal's room (R46, R47). -/
theorem State.judge_stage {data : List Byte} (hmin : 1 ≤ data.length) (hmax : data.length ≤ 64)
    (hs : s.Admits a.toNat data.length WindowEntry.s) : s.judge (e.parcel 3#4 false a data) =
      if (s.group e.group).state = .committing then .refusedGroup
      else if 32 ≤ s.journal.length then .refusedFull else .taken := by
  rw [(access_stage ha a hmin hmax).judge_admitted hs]
  simp [work_stage, State.groupFails, Work.groupOf, State.spaceFails_iff, Work.needsJournal, Work.needsReply,
    Work.access]

end

/-! ### The entry of a taken access (R50 to R52, R103) -/

/-- The journal entry of an access that a window translates (R63). -/
theorem State.accessEntry_of_lookup {s : State} {a : Word} {w : WindowEntry} (hw : s.windows.lookup a.toNat = some w)
    (kind : EntryKind) (tag : Byte) (n : Nat) (data : List Byte) (state : EntryState) :
    s.accessEntry kind tag a n data state =
      ⟨kind, tag, BitVec.ofNat 32 (w.localBase + (a.toNat - w.loopBase)), n, data, state⟩ := by
  simp only [State.accessEntry, hw]
  rfl

/-- A STAGE opens an EMPTY group with entry count 1, and counts one more in another (R103). -/
theorem Group.addEntry_empty {r : Group} (h : r.state = .empty) : r.addEntry = ⟨.opened, 1, none, 0, 0, 0, none⟩ := by
  simp only [Group.addEntry, h]
  rfl

theorem Group.addEntry_opened {r : Group} (h : r.state = .opened) :
    r.addEntry = { r with entryCount := r.entryCount + 1 } := by
  simp only [Group.addEntry, h]

end Sys2Proof.Machine

namespace Sys2Proof.Proofs

open Sys2Proof.Machine

/-- Settles O17: the three commands are accesses of one shape, judged in R39's order. -/
theorem localWindowAndRightsRefusals : Obligations.LocalWindowAndRightsRefusals := by
  refine ⟨fun c e a n right p s hc hn hp hh ha => ?_, fun e a s hh ha hx => ?_⟩
  · obtain ⟨own, access⟩ : OwnUnicast c e.gap p s ∧ MemoryAccess p a.toNat n right := by
      rcases hc with ⟨k, rfl, rfl, hmax, rfl⟩ | ⟨data, rfl, rfl, hmax, rfl⟩ | ⟨data, rfl, rfl, hmax, rfl⟩ <;>
        obtain ⟨_, rfl⟩ := Prod.mk.inj (Option.some.inj hp)
      · exact ⟨.of_addressed hp hh ha (by simp), access_memoryRead ha a hn hmax⟩
      · exact ⟨.of_addressed hp hh ha (by omega), access_memoryWrite ha a hn hmax⟩
      · exact ⟨.of_addressed hp hh ha (by omega), access_stage ha a hn hmax⟩
    refine ⟨fun hx => own.exec_refused (access.judge_held hx) (by decide),
      fun hx hw => own.exec_refused (access.judge_window hx hw) (by decide), fun hx hw => ?_⟩
    obtain ⟨w, hw, hfits, hr⟩ := hw
    exact own.exec_refused (access.judge_rights hx hw hfits hr) (by decide)
  · exact (OwnUnicast.of_addressed rfl hh ha (by decide)).exec_refused (State.judge_commit_held ha a hx) (by decide)

/-- Settles O18, kind by kind: the group is asked before the room. -/
theorem groupAndSpaceRefusals : Obligations.GroupAndSpaceRefusals := by
  refine ⟨fun e a s hh ha => ?_, fun e a data w s hh ha hx hmin hmax hw hfits => ?_,
    fun e a n w s hh ha hx hmin hmax hw hfits hr hfull => ?_, fun e a n s hh ha hmin hmax hwhole hrange hfull => ?_⟩
  · have commit := OwnUnicast.of_addressed (c := .commit e a) rfl hh ha (by decide)
    have discard := OwnUnicast.of_addressed (c := .discard e a) rfl hh ha (by decide)
    refine ⟨fun hg => ⟨fun hx => commit.exec_refused ?_ (by decide), discard.exec_refused ?_ (by decide)⟩,
      fun hg hfull => ⟨fun hx => commit.exec_refused ?_ (by decide), discard.exec_refused ?_ (by decide)⟩⟩
    · rw [State.judge_commit ha a hx, if_pos hg]
    · rw [State.judge_discard ha a, if_pos hg]
    · rw [State.judge_commit ha a hx, if_neg hg, if_pos hfull]
    · rw [State.judge_discard ha a, if_neg hg, if_pos hfull]
  · have stage := OwnUnicast.of_addressed (c := .stage e a data) rfl hh ha (by omega)
    have write := OwnUnicast.of_addressed (c := .memoryWrite e a data) rfl hh ha (by omega)
    refine ⟨fun hs hg => stage.exec_refused ?_ (by decide), fun hr hfull => write.exec_refused ?_ (by decide),
      fun hs hfull hg => stage.exec_refused ?_ (by decide)⟩
    · rw [State.judge_stage ha a hmin hmax ⟨hx, w, hw, hfits, hs⟩, if_pos hg]
    · rw [State.judge_memoryWrite ha a hmin hmax ⟨hx, w, hw, hfits, hr⟩, if_pos hfull]
    · rw [State.judge_stage ha a hmin hmax ⟨hx, w, hw, hfits, hs⟩, if_neg hg, if_pos hfull]
  · have read := OwnUnicast.of_addressed (c := .memoryRead e a n) rfl hh ha (by simp)
    refine read.exec_refused ?_ (by decide)
    rw [State.judge_memoryRead ha a hmin hmax ⟨hx, w, hw, hfits, hr⟩, if_pos hfull]
  · have read := OwnUnicast.of_addressed (c := .controlRead e a n) rfl hh ha (by simp)
    refine read.exec_refused ?_ (by decide)
    rw [State.judge_controlRead ha a hmin hmax hwhole hrange, if_pos hfull]

/-- Settles O23: the READ passes every check, and its entry and reservation are the work. -/
theorem memoryReadIsTaken : Obligations.MemoryReadIsTaken := by
  rintro e a n w s p rfl hh ha hx hmin hmax hw hfits hr hjournal hreply
  have hjudge : s.judge (e.parcel 1#4 false a [n]) = .taken := by
    rw [State.judge_memoryRead ha a hmin hmax ⟨hx, w, hw, hfits, hr⟩, if_neg (by omega)]
  rw [(OwnUnicast.of_addressed rfl hh ha (by simp)).exec_taken hjudge, work_memoryRead, State.handOn, State.takeRead,
    State.accessEntry_of_lookup (s := s.heard _ _) hw]
  rfl

/-- Settles O24: the WRITE passes every check, and its entry is the work. -/
theorem memoryWriteIsTaken : Obligations.MemoryWriteIsTaken := by
  rintro e a data w s p rfl hh ha hx hmin hmax hw hfits hr hjournal
  have hjudge : s.judge (e.parcel 2#4 false a data) = .taken := by
    rw [State.judge_memoryWrite ha a hmin hmax ⟨hx, w, hw, hfits, hr⟩, if_neg (by omega)]
  rw [(OwnUnicast.of_addressed rfl hh ha (by omega)).exec_taken hjudge, work_memoryWrite, State.handOn, State.takeWrite,
    State.accessEntry_of_lookup (s := s.heard _ _) hw]
  rfl

/-- Settles O25: the STAGE passes every check, and its entry and its group's record are the work. -/
theorem stageIsTaken : Obligations.StageIsTaken := by
  rintro e a data w s p record rfl hh ha hx hmin hmax hw hfits hs hjournal hgroup
  obtain ⟨hnot, hrecord⟩ : (s.group e.group).state ≠ .committing ∧ (s.group e.group).addEntry = record := by
    rcases hgroup with ⟨hg, rfl⟩ | ⟨hg, rfl⟩
    · exact ⟨by simp [hg], Group.addEntry_empty hg⟩
    · exact ⟨by simp [hg], Group.addEntry_opened hg⟩
  have hjudge : s.judge (e.parcel 3#4 false a data) = .taken := by
    rw [State.judge_stage ha a hmin hmax ⟨hx, w, hw, hfits, hs⟩, if_neg hnot, if_neg (by omega)]
  subst hrecord
  rw [(OwnUnicast.of_addressed rfl hh ha (by omega)).exec_taken hjudge, work_stage, State.handOn, State.takeStage,
    State.accessEntry_of_lookup (s := s.heard _ _) hw]
  rfl

end Sys2Proof.Proofs
end

section
/-! PROOFS. Control space at Intake: the words that refuse a WRITE, control READs, and CLEAR TALLIES (R48, R55, R175, R176). -/

set_option Elab.async false

namespace Sys2Proof.Machine

/-! ### The words that refuse a WRITE (R48) -/

/-- A field that must be zero is not, as a number. -/
theorem field_bne_zero {w : Nat} (start len : Nat) (x : BitVec w) :
    (x.extractLsb' start len != 0#len) = true ↔ x.toNat / 2 ^ start % 2 ^ len ≠ 0 := by
  rw [bne_iff_ne, ne_eq, ← BitVec.toNat_inj, toNat_field]
  simp

section
variable (s : State) (x : Word)

theorem State.wordFails_readOnly {a : Nat} (hgate : a ≠ 0x008) (hlimit : a ≠ 0x00C) (hcommand : a ≠ 0x010)
    (hstandby : ¬ (0x100 ≤ a ∧ a < 0x200)) : s.wordFails a x = true := by
  rw [State.wordFails, if_neg hgate, if_neg hlimit, if_neg hcommand, if_neg hstandby]

theorem State.wordFails_gate : s.wordFails 0x008 x = true ↔ 1 < x.toNat := by
  have hx := x.isLt
  rw [State.wordFails, if_pos rfl, field_bne_zero]
  omega

theorem State.wordFails_limit : s.wordFails 0x00C x = true ↔ 255 < x.toNat := by
  have hx := x.isLt
  rw [State.wordFails, if_neg (by decide), if_pos rfl, field_bne_zero]
  omega

/-- The standby bank fails SWAP validation on a VALID entry that is empty or runs past 2^32 (R70). -/
theorem WindowTable.swapValid_false {t : WindowTable} : t.swapValid = false ↔
    ∃ e ∈ t.standbyBank.toList, e.valid = true
      ∧ (e.size = 0#24 ∨ 2 ^ 32 < e.loopBase + e.bytes ∨ 2 ^ 32 < e.localBase + e.bytes) := by
  simp only [WindowTable.swapValid, List.all_eq_false, WindowEntry.sound_iff]
  refine exists_congr fun e => and_congr_right fun _ => ?_
  have hsize : e.size = 0#24 ↔ e.size.toNat = 0 := by simp [← BitVec.toNat_inj]
  rw [hsize, Classical.not_imp]
  refine and_congr_right fun _ => ?_
  omega

theorem State.wordFails_command : s.wordFails 0x010 x = true ↔
    x.toNat ∉ [1, 2, 3, 4] ∨ x = 1#32 ∧ s.windows.swapValid = false := by
  have hone : x = 1#32 ↔ x.toNat = 1 := by simp [← BitVec.toNat_inj]
  have hvalue : x.toNat ∉ [1, 2, 3, 4] ↔ x.toNat = 0 ∨ 4 < x.toNat := by
    simp only [List.mem_cons, List.not_mem_nil, or_false]
    omega
  rw [hone, hvalue]
  simp [State.wordFails]

/-- A standby word fails on the bits that must be zero, and word 1 on a SIZE past its limit. -/
theorem State.wordFails_standby {a : Nat} (hlow : 0x100 ≤ a) (hhigh : a < 0x200) :
    (a % 16 = 0 → (s.wordFails a x = true ↔ x.toNat % 256 ≠ 0))
    ∧ (a % 16 = 4 → (s.wordFails a x = true ↔ 0x800000 < x.toNat))
    ∧ (a % 16 = 8 → (s.wordFails a x = true ↔ x.toNat % 8 ≠ 0))
    ∧ (a % 16 = 12 → (s.wordFails a x = true ↔ 8 ≤ x.toNat % 2 ^ 31)) := by
  have hx := x.isLt
  have hwindow : 0x100 ≤ a ∧ a < 0x200 := ⟨hlow, hhigh⟩
  rw [State.wordFails, if_neg (by omega), if_neg (by omega), if_neg (by omega), if_pos hwindow]
  refine ⟨fun h => ?_, fun h => ?_, fun h => ?_, fun h => ?_⟩
  all_goals
    simp only [h, Nat.reduceDiv, Bool.or_eq_true, decide_eq_true_eq, field_bne_zero, toNat_field]
    omega

end

/-! ### The captured words of a control READ (R55, R176) -/

/-- The words captured are those of the range, in address order. -/
theorem State.capture_eq (s : State) (a n : Nat) :
    s.capture a n = (List.range n).flatMap (fun k => wordBytes (s.controlWord (a + 4 * k))) := by
  induction n generalizing a with
  | zero => rfl
  | succ n ih =>
    rw [State.capture, ih, List.range_succ_eq_map, List.flatMap_cons, List.flatMap_map]
    refine congrArg _ (congrArg (List.flatMap · _) (funext fun k => ?_))
    rw [Nat.mul_succ, Nat.add_right_comm, Nat.add_assoc]

/-- Byte times change no word of control space. -/
@[simp] theorem State.heard_controlWord (s : State) (gap : Nat) (p : Parcel) (a : Nat) :
    (s.heard gap p).controlWord a = s.controlWord a := by
  have hstatus : (s.heard gap p).nodeStatus = s.nodeStatus := by
    simp only [State.nodeStatus, State.heard_loopState]
    rfl
  simp only [State.controlWord, hstatus]
  rfl

/-! ### A control WRITE that is refused (R48) -/

theorem formOk_controlWrite {s : State} {e : Envelope} (ha : s.addressed e = true) {a : Word} {payload : List Byte}
    (hmin : 4 ≤ payload.length) (hmax : payload.length ≤ 64) (hwhole : payload.length % 4 = 0)
    (hrange : controlRangeOk a.toNat (payload.length / 4) = true) : (e.parcel 2#4 true a payload).formOk = true := by
  obtain ⟨_, hzero, hall, _⟩ := State.addressed_iff.mp ha
  exact formOk_of ((Parcel.headerOk_controlWrite ⟨rfl, rfl⟩).mpr ⟨rfl, hzero, hall, hmin, hmax, hwhole⟩) hrange

/-- One word that fails refuses the whole WRITE. -/
theorem State.judge_controlWrite_refused {s : State} {e : Envelope} {a : Word} {payload : List Byte}
    (hform : (e.parcel 2#4 true a payload).formOk = true)
    (hword : ∃ w ∈ controlWords a.toNat payload, s.wordFails w.1 w.2 = true) :
    s.judge (e.parcel 2#4 true a payload) = .refusedControl := by
  have hcontents : s.contentsFail (.controlWrite (controlWords a.toNat payload)) = true := List.any_eq_true.mpr hword
  rw [State.judge, hform, work_controlWrite, hcontents]
  rfl

/-! ### CLEAR TALLIES (R175) -/

/-- CLEAR TALLIES writes one word, at the COMMAND word, which never fails. -/
theorem controlWords_clearTallies : controlWords (0x010#32).toNat (wordBytes 3#32) = [(0x010, 3#32)] := by
  decide

theorem State.applyWords_clearTallies (s : State) : s.applyWords [(0x010, 3#32)] = { s with tallies := Tallies.zero } :=
  rfl

end Sys2Proof.Machine

namespace Sys2Proof.Proofs

open Sys2Proof.Machine

/-- Settles O19: R48's table address by address, and the last check refuses the WRITE. -/
theorem refusedControlContents : Obligations.RefusedControlContents := by
  refine ⟨fun s a x _ => ⟨fun hread => ?_, ?_, ?_, ?_, fun hlow hhigh => s.wordFails_standby x hlow hhigh⟩,
    fun e a payload s hh ha hmin hmax hwhole hrange hword => ?_⟩
  · have hread : (a = 0x000 ∨ a = 0x004 ∨ a = 0x014 ∨ a = 0x018)
        ∨ 0x040 ≤ a ∧ a < 0x06C ∨ 0x200 ≤ a ∧ a < 0x300 ∨ 0x400 ≤ a ∧ a < 0x620 := by simpa using hread
    exact s.wordFails_readOnly x (by omega) (by omega) (by omega) (by omega)
  · rintro rfl
    exact s.wordFails_gate x
  · rintro rfl
    exact s.wordFails_limit x
  · rintro rfl
    rw [s.wordFails_command x, WindowTable.swapValid_false]
  · exact (OwnUnicast.of_addressed rfl hh ha (by omega)).exec_refused
      (State.judge_controlWrite_refused (formOk_controlWrite ha hmin hmax hwhole hrange) hword) (by decide)

/-- Settles O35: the READ passes every check, and captures the words as they stand on arrival. -/
theorem controlReadIsTaken : Obligations.ControlReadIsTaken := by
  rintro e a n s p rfl hh ha hmin hmax hwhole hrange hreply
  have hjudge : s.judge (e.parcel 1#4 true a [n]) = .taken := by
    rw [State.judge_controlRead ha a hmin hmax hwhole hrange, if_neg (by omega)]
  rw [(OwnUnicast.of_addressed rfl hh ha (by simp)).exec_taken hjudge, work_controlRead, State.handOn,
    State.takeControlRead, State.capture_eq]
  simp only [State.heard_controlWord]
  rfl

/-- Settles O41: the command's word applies first, and its TAKEN is counted after. -/
theorem clearTalliesLeavesOneTaken : Obligations.ClearTalliesLeavesOneTaken := by
  rintro e s p q rfl rfl hh ha
  have hwords : ∀ w ∈ controlWords (0x010#32).toNat (wordBytes 3#32), s.wordFails w.1 w.2 = false := by
    rw [controlWords_clearTallies]
    exact List.forall_mem_singleton.mpr rfl
  have harrive := State.arrive_controlWrite hh ha (by decide) (by decide) (by decide) (by decide) hwords
  rw [controlWords_clearTallies, State.applyWords_clearTallies] at harrive
  exact congrArg _ harrive

end Sys2Proof.Proofs
end

section
/-! PROOFS. The journal and the window table through a step: entries leave or one joins at the tail, and the active bank changes
by SWAP or reset alone (R66, R68, R69, R71, R74, R75). -/

set_option Elab.async false

namespace Sys2Proof.Machine

/-! ### Entries that leave the journal (R74, R75) -/

/-- The entry with STATE set apart: the fields that no happening changes (R75). -/
def Entry.fixed (e : Entry) : Entry := { e with state := .waiting }

/-- `j'` holds entries of `j` in their order, changed in STATE alone. -/
def ThinnedFrom (j j' : List Entry) : Prop := (j'.map Entry.fixed).Sublist (j.map Entry.fixed)

theorem ThinnedFrom.refl (j : List Entry) : ThinnedFrom j j := List.Sublist.refl _

theorem ThinnedFrom.trans {j j' j'' : List Entry} (h : ThinnedFrom j j') (h' : ThinnedFrom j' j'') : ThinnedFrom j j'' :=
  List.Sublist.trans h' h

theorem ThinnedFrom.of_sublist {j j' : List Entry} (h : j'.Sublist j) : ThinnedFrom j j' := h.map Entry.fixed

theorem ThinnedFrom.of_fixed {j j' : List Entry} (h : j'.map Entry.fixed = j.map Entry.fixed) : ThinnedFrom j j' := by
  rw [ThinnedFrom, h]

theorem ThinnedFrom.nil (j : List Entry) : ThinnedFrom j [] := List.nil_sublist _

/-- Waking changes STATE alone (R105). -/
theorem Entry.wake_fixed (g : BitVec 3) (e : Entry) : (e.wake g).fixed = e.fixed := by
  unfold Entry.wake
  split <;> rfl

theorem ThinnedFrom.wake (g : BitVec 3) (j : List Entry) : ThinnedFrom j (j.map (Entry.wake g)) := by
  refine .of_fixed ?_
  rw [List.map_map]
  exact List.map_congr_left fun e _ => e.wake_fixed g

/-- Issue changes STATE alone (R82). -/
theorem ThinnedFrom.issue {j : List Entry} {k : Nat} {e : Entry} (he : j[k]? = some e) :
    ThinnedFrom j (j.set k { e with state := .issued }) := by
  obtain ⟨hk, rfl⟩ := List.getElem?_eq_some_iff.mp he
  refine .of_fixed ?_
  have hsame : Entry.fixed { j[k] with state := .issued } = (j.map Entry.fixed)[k]'(by simpa using hk) := by
    rw [List.getElem_map]
    rfl
  rw [List.map_set, hsame, List.set_getElem_self]

/-! ### Happenings that leave the window table and add no entry -/

/-- From `s` to `t` the window table stays as it is and no entry joins the journal. -/
structure State.OnlyThins (s t : State) : Prop where
  windows : t.windows = s.windows
  journal : ThinnedFrom s.journal t.journal

namespace State.OnlyThins

variable {s t u : State}

theorem trans (h : s.OnlyThins t) (h' : t.OnlyThins u) : s.OnlyThins u where
  windows := h'.windows.trans h.windows
  journal := h.journal.trans h'.journal

theorem of_same (hw : t.windows = s.windows) (hj : t.journal = s.journal) : s.OnlyThins t :=
  ⟨hw, hj ▸ ThinnedFrom.refl _⟩

theorem refl (s : State) : s.OnlyThins s := of_same rfl rfl

end State.OnlyThins

theorem State.accountStaged_onlyThins (s : State) (g : BitVec 3) (tag : Byte) (o : Ending) :
    s.OnlyThins (s.accountStaged g tag o) := by
  unfold State.accountStaged
  simp only
  split <;> exact .of_same rfl rfl

theorem State.account_onlyThins (s : State) (e : Entry) (op : Operation) (o : Ending) :
    s.OnlyThins (s.account e op o) := by
  cases o with
  | ok =>
    simp only [State.account]
    split
    · exact .of_same rfl rfl
    · exact .refl s
    · exact s.accountStaged_onlyThins _ _ _
  | failed st =>
    simp only [State.account]
    split
    · exact .of_same rfl rfl
    · exact .of_same rfl rfl
    · exact s.accountStaged_onlyThins _ _ _

/-- The end of an operation takes the ISSUED entry out of the journal (R87). -/
theorem State.finish_onlyThins (s : State) (op : Operation) (o : Ending) : s.OnlyThins (s.finish op o) := by
  unfold State.finish
  split
  · exact .of_same rfl rfl
  · next e _ =>
    have left : s.OnlyThins ({ s with journal := s.journal.eraseP Entry.isIssued }.enter .idle) :=
      ⟨rfl, .of_sublist List.eraseP_sublist⟩
    exact left.trans (State.account_onlyThins _ e op o)

theorem State.issueAt_onlyThins {s : State} {k : Nat} {e : Entry} (he : s.journal[k]? = some e) :
    s.OnlyThins (s.issueAt k e) := ⟨rfl, .issue he⟩

theorem State.requestEdge_onlyThins (s : State) (op : Operation) (lgnt : Bool) : s.OnlyThins (s.requestEdge op lgnt) := by
  unfold State.requestEdge
  split
  · exact .of_same rfl rfl
  · split
    · exact s.finish_onlyThins _ _
    · exact .of_same rfl rfl

theorem State.stretch_onlyThins (s : State) (op : Operation) : s.OnlyThins (s.stretch op) := by
  unfold State.stretch
  split
  · exact s.finish_onlyThins _ _
  · exact .of_same rfl rfl

theorem State.beatDone_onlyThins (s : State) (op : Operation) (ld : BitVec 64) : s.OnlyThins (s.beatDone op ld) := by
  unfold State.beatDone
  split
  · exact s.finish_onlyThins _ _
  · exact .of_same rfl rfl

theorem State.beatEdge_onlyThins (s : State) (op : Operation) (lgnt lerr lwait : Bool) (ld : BitVec 64) :
    s.OnlyThins (s.beatEdge op lgnt lerr lwait ld) := by
  unfold State.beatEdge
  split
  · exact s.finish_onlyThins _ _
  · split
    · exact s.finish_onlyThins _ _
    · split
      · exact s.stretch_onlyThins op
      · exact s.beatDone_onlyThins op ld

theorem State.localResetSequence_onlyThins (s : State) : s.OnlyThins s.localResetSequence := ⟨rfl, .nil _⟩

theorem State.localResetCommand_onlyThins (s : State) : s.OnlyThins s.localResetCommand := by
  unfold State.localResetCommand
  split
  · exact s.localResetSequence_onlyThins
  · exact s.localResetSequence_onlyThins.trans (.of_same rfl rfl)

theorem State.commitGroup_onlyThins (s : State) (g : BitVec 3) (tag : Byte) : s.OnlyThins (s.commitGroup g tag) := by
  unfold State.commitGroup
  split
  · exact ⟨rfl, .wake g _⟩
  · exact .of_same rfl rfl

theorem State.discardGroup_onlyThins (s : State) (g : BitVec 3) (tag : Byte) : s.OnlyThins (s.discardGroup g tag) := by
  unfold State.discardGroup
  split
  · exact ⟨rfl, .of_sublist List.filter_sublist⟩
  · exact .of_same rfl rfl

/-! ### The words of a control WRITE (R56, R67 to R71, R174) -/

theorem State.command_thinned (s : State) (value : Nat) : ThinnedFrom s.journal (s.command value).journal := by
  unfold State.command
  split
  · exact .refl _
  · exact .refl _
  · exact .refl _
  · exact s.localResetCommand_onlyThins.journal
  · exact .refl _

theorem State.applyWord_thinned (s : State) (a : Nat) (x : Word) : ThinnedFrom s.journal (s.applyWord a x).journal := by
  unfold State.applyWord
  split
  · exact .refl _
  · split
    · exact .refl _
    · split
      · exact s.command_thinned _
      · exact .refl _

/-- No word of a control WRITE adds an entry to the journal. -/
theorem State.applyWords_thinned (s : State) (words : List (Nat × Word)) :
    ThinnedFrom s.journal (s.applyWords words).journal := by
  induction words generalizing s with
  | nil => exact .refl _
  | cons w words ih => exact (s.applyWord_thinned w.1 w.2).trans (ih _)

/-- The active bank stays, or the standby bank takes its place having passed SWAP validation (R70, R71). -/
def WindowTable.KeepsOrSwaps (t t' : WindowTable) : Prop :=
  t'.activeBank = t.activeBank ∨ t'.activeBank = t.standbyBank ∧ t.swapValid = true

theorem WindowTable.KeepsOrSwaps.of_eq {t t' : WindowTable} (h : t' = t) : t.KeepsOrSwaps t' := .inl (h ▸ rfl)

/-- COPY loads the standby bank alone (R69). -/
theorem WindowTable.copyBank_activeBank (t : WindowTable) : t.copyBank.activeBank = t.activeBank :=
  t.setStandby_activeBank _

/-- Of the COMMAND values only SWAP changes the active bank (R68, R69). -/
theorem State.command_keepsOrSwaps {s : State} {x : Word} (hx : s.wordFails 0x010 x = false) :
    s.windows.KeepsOrSwaps (s.command x.toNat).windows := by
  unfold State.command
  split
  · next hone => exact .inr ⟨s.windows.swapBanks_activeBank, State.swapValid_of_wordFails hx hone⟩
  · exact .inl s.windows.copyBank_activeBank
  · exact .of_eq rfl
  · exact .of_eq s.localResetCommand_onlyThins.windows
  · exact .of_eq rfl

/-- Beyond the COMMAND word only standby words apply, which leave the active bank (R67). -/
theorem State.applyWord_activeBank_beyond_command (s : State) {a : Nat} (ha : 0x010 < a) (x : Word) :
    (s.applyWord a x).windows.activeBank = s.windows.activeBank := by
  obtain ⟨_, _, hbank⟩ := s.windows.writeStandby_keeps a x
  rw [State.applyWord, if_neg (by omega), if_neg (by omega), if_neg (by omega), hbank]

theorem State.applyWords_activeBank_beyond_command (payload : List Byte) {a : Nat} (s : State) (ha : 0x010 < a) :
    (s.applyWords (controlWords a payload)).windows.activeBank = s.windows.activeBank := by
  fun_induction controlWords a payload generalizing s with
  | case1 a b3 b2 b1 b0 rest ih =>
    rw [State.applyWords_cons, ih _ (by omega), s.applyWord_activeBank_beyond_command ha]
  | case2 => rfl

/-- A taken control WRITE: only GATE and LOCAL LIMIT come before a SWAP, so the bank it validates is the standby bank as the WRITE
found it, and what comes after it leaves the active bank. -/
theorem State.applyWords_keepsOrSwaps (payload : List Byte) {a : Nat} {s : State}
    (hw : ∀ w ∈ controlWords a payload, s.wordFails w.1 w.2 = false) :
    s.windows.KeepsOrSwaps (s.applyWords (controlWords a payload)).windows := by
  fun_induction controlWords a payload generalizing s with
  | case1 a b3 b2 b1 b0 rest ih =>
    have hfirst := hw _ List.mem_cons_self
    rw [State.applyWords_cons]
    rcases Nat.lt_trichotomy a 0x010 with hbelow | rfl | hbeyond
    · have hsame := s.applyWord_windows_below_command (State.wordFails_below_command hbelow hfirst) (wordOf b3 b2 b1 b0)
      rw [← hsame]
      refine ih fun w hmem => ?_
      rw [State.wordFails_congr hsame]
      exact hw w (List.mem_cons_of_mem _ hmem)
    · rw [WindowTable.KeepsOrSwaps, State.applyWords_activeBank_beyond_command rest _ (by omega)]
      exact State.command_keepsOrSwaps hfirst
    · refine .inl ?_
      rw [State.applyWords_activeBank_beyond_command rest _ (by omega), s.applyWord_activeBank_beyond_command hbeyond]
  | case2 => exact .of_eq rfl

/-! ### Every happening -/

/-- What a happening can do to the journal `j` and the window table `w`. -/
inductive Evolves (j : List Entry) (w : WindowTable) (j' : List Entry) (w' : WindowTable) : Prop where
  /-- Entries leave the journal, and the active bank stays or is swapped. -/
  | thins (journal : ThinnedFrom j j') (windows : w.KeepsOrSwaps w')
  /-- An entry joins the journal at its tail (R74, R77). -/
  | joins (e : Entry) (journal : j' = j ++ [e]) (windows : w' = w)
  /-- Loop reset or power-on reset clears both (R32, R34). -/
  | resets (journal : j' = []) (windows : w' = WindowTable.atReset)

/-- From `s` to `t` the journal and the window table change as a happening can change them. -/
def State.Evolves (s t : State) : Prop := Machine.Evolves s.journal s.windows t.journal t.windows

theorem State.OnlyThins.evolves {s t : State} (h : s.OnlyThins t) : s.Evolves t := .thins h.journal (.of_eq h.windows)

theorem State.Evolves.of_same {s t : State} (hw : t.windows = s.windows) (hj : t.journal = s.journal) : s.Evolves t :=
  State.OnlyThins.evolves (.of_same hw hj)

/-- Taken work: a memory access adds its entry, a loop reset clears both, and nothing else adds an entry (R50 to R56). -/
theorem State.handOn_evolves {s : State} {p : Parcel} (hj : s.judge p = .taken) : s.Evolves (s.handOn p.tag p.work) := by
  obtain ⟨hform, _, _, _, _, _, hcontents⟩ := State.judge_taken.mp hj
  cases hw : p.work with
  | memoryRead | memoryWrite | stage => exact .joins _ rfl rfl
  | commit g => exact (s.commitGroup_onlyThins g _).evolves
  | discard g => exact (s.discardGroup_onlyThins g _).evolves
  | loopReset => exact .resets rfl rfl
  | controlWrite words =>
    have hsize := work_sizeOk_of_formOk hform
    rw [hw] at hsize hcontents
    obtain ⟨a, payload, rfl⟩ := hsize
    exact .thins (s.applyWords_thinned _) (State.applyWords_keepsOrSwaps payload fun w hmem => by
      simpa using List.any_eq_false.mp hcontents w hmem)
  | sweep | step | number | controlRead => exact .of_same rfl rfl

theorem State.powerFail_evolves (s : State) : s.Evolves s.powerFail := by
  unfold State.powerFail
  split
  · exact .resets rfl rfl
  · exact .of_same rfl rfl

theorem evolves_of_happening {s t : State} (ht : Happening s t) : s.Evolves t := by
  cases ht with
  | takesBroadcast _ _ _ _ _ taken => exact State.handOn_evolves taken
  | takesUnicast _ _ _ _ _ taken => exact State.handOn_evolves taken
  | powersOn => exact .resets rfl rfl
  | powerFails => exact s.powerFail_evolves
  | issues _ _ _ _ _ _ entry => exact (State.issueAt_onlyThins entry).evolves
  | requestEdge op lgnt => exact (s.requestEdge_onlyThins op lgnt).evolves
  | beatEdge op lgnt lerr lwait ld => exact (s.beatEdge_onlyThins op lgnt lerr lwait ld).evolves
  | lrstFalls => exact s.localResetSequence_onlyThins.evolves
  | _ => exact .of_same rfl rfl

/-- Taking the front command off the queue touches neither. -/
theorem step_evolves {s t : State} (h : step s = .next t) : s.Evolves t := by
  have happens : State.Evolves { s with pending := s.pending.tail } t := evolves_of_happening (step_happening h)
  exact happens

end Sys2Proof.Machine

namespace Sys2Proof.Proofs

open Sys2Proof.Machine

/-- Settles O59: entries kept, then the entry that joins, by cases on what a step does to the journal. -/
theorem journalKeepsOrderAndFields : Obligations.JournalKeepsOrderAndFields := by
  intro s t hstep
  change ∃ kept joined : List Entry, kept.Sublist (s.journal.map Entry.fixed) ∧ joined.length ≤ 1
    ∧ t.journal.map Entry.fixed = kept ++ joined
  cases step_evolves hstep with
  | thins journal => exact ⟨_, [], journal, Nat.zero_le _, (List.append_nil _).symm⟩
  | joins e journal =>
    refine ⟨_, [e.fixed], List.Sublist.refl _, Nat.le_refl _, ?_⟩
    rw [journal, List.map_append, List.map_singleton]
  | resets journal => exact ⟨[], [], List.nil_sublist _, Nat.zero_le _, congrArg _ journal⟩

/-- Settles O60, by cases on what a step does to the window table. -/
theorem activeBankChangesOnlyBySwap : Obligations.ActiveBankChangesOnlyBySwap := by
  intro s t hstep
  cases step_evolves hstep with
  | thins _ windows => exact windows.imp_right .inl
  | joins _ _ windows => exact .inl (congrArg _ windows)
  | resets _ windows => exact .inr (.inr (congrArg _ windows))

end Sys2Proof.Proofs
end

section
/-! PROOFS. Lookup and translation, and the COMMAND words SWAP and COPY (R61, R63, R69 to R71). -/

set_option Elab.async false

namespace Sys2Proof.Machine

/-! ### Lookup and translation (R61, R63) -/

/-- Lookup answers the VALID entry of lowest index that contains the address (R61). -/
theorem WindowTable.lookup_eq_some_iff {t : WindowTable} {a : Nat} {w : WindowEntry} :
    t.lookup a = some w ↔
      ∃ (i : Nat) (h : i < 16), t.activeBank[i] = w ∧ w.contains a = true
        ∧ ∀ (j : Nat) (hj : j < i), ¬ t.activeBank[j].contains a = true := by
  rw [WindowTable.lookup, List.find?_eq_some_iff_getElem]
  simp only [Vector.length_toList, Vector.getElem_toList, Bool.not_eq_true', Bool.not_eq_true]
  constructor
  · rintro ⟨hw, i, hi, he, hlower⟩
    exact ⟨i, hi, he, hw, hlower⟩
  · rintro ⟨i, hi, he, hw, hlower⟩
    exact ⟨hw, i, hi, he, hlower⟩

/-- Inside a sound entry the local address is LOCAL BASE plus the offset, without wrapping (R63). -/
theorem WindowEntry.translate_toNat {w : WindowEntry} {a : Nat} (hs : w.sound = true) (hc : w.contains a = true) :
    (w.translate a).toNat = w.localBase + (a - w.loopBase) := by
  obtain ⟨hv, hlow, hhigh⟩ := WindowEntry.contains_iff.mp hc
  obtain ⟨_, _, hlocal⟩ := WindowEntry.sound_iff.mp hs hv
  rw [WindowEntry.translate, BitVec.toNat_ofNat]
  exact Nat.mod_eq_of_lt (by omega)

/-- Both bases are multiples of 8, so translation keeps the lane (R16, R63). -/
theorem WindowEntry.translate_lane {w : WindowEntry} {a : Nat} (hs : w.sound = true) (hc : w.contains a = true) :
    (w.translate a).toNat % 8 = a % 8 := by
  obtain ⟨_, hlow, _⟩ := WindowEntry.contains_iff.mp hc
  rw [WindowEntry.translate_toNat hs hc]
  simp only [WindowEntry.loopBase, WindowEntry.localBase] at hlow ⊢
  omega

/-- The number of beats depends on the address by its lane alone (R122). -/
theorem beatCount_of_lane {a b n : Nat} (hn : 1 ≤ n) (h : b % 8 = a % 8) : beatCount b n = beatCount a n := by
  simp only [beatCount]
  omega

/-! ### The COMMAND word (R174) -/

theorem controlWords_wordBytes (a : Nat) (x : Word) : controlWords a (wordBytes x) = [(a, x)] := by
  have hcons := controlWords_flatMap_cons a x []
  rwa [List.flatMap_cons, List.flatMap_nil, List.append_nil] at hcons

/-- One word at 010h is a legal control range (R42). -/
theorem controlRangeOk_command (x : Word) : controlRangeOk (0x010#32).toNat ((wordBytes x).length / 4) = true := by
  rw [wordBytes_length]
  decide

/-- A COMMAND word that does not fail has its effect and is answered TAKEN. -/
theorem State.exec_command_taken {s : State} {c : Instr} {e : Envelope} {x : Word}
    (hc : c.arrival = some (e.gap, e.writeWord 0x010#32 x)) (hh : s.hears e.gap = true) (ha : s.addressed e = true)
    (hx : s.wordFails 0x010 x = false) :
    exec c s = .next (((s.heard e.gap (e.writeWord 0x010#32 x)).command x.toNat).dispose .taken
      (e.writeWord 0x010#32 x)) := by
  have hwords : ∀ w ∈ controlWords (0x010#32).toNat (wordBytes x), s.wordFails w.1 w.2 = false := by
    rw [controlWords_wordBytes]
    exact List.forall_mem_singleton.mpr hx
  have harrive := State.arrive_controlWrite hh ha (by simp) (by simp) (by simp) (controlRangeOk_command x) hwords
  rw [controlWords_wordBytes] at harrive
  rw [exec_arrival hc]
  exact congrArg _ harrive

/-- A COMMAND word that fails refuses the WRITE. -/
theorem State.exec_command_refused {s : State} {c : Instr} {e : Envelope} {x : Word}
    (hc : c.arrival = some (e.gap, e.writeWord 0x010#32 x)) (hh : s.hears e.gap = true) (ha : s.addressed e = true)
    (hx : s.wordFails 0x010 x = true) :
    exec c s = .next ((s.heard e.gap (e.writeWord 0x010#32 x)).dispose .refusedControl (e.writeWord 0x010#32 x)) := by
  have hform := formOk_controlWrite ha (a := 0x010#32) (payload := wordBytes x) (by simp) (by simp) (by simp)
    (controlRangeOk_command x)
  refine (OwnUnicast.of_addressed hc hh ha (by simp)).exec_refused
    (State.judge_controlWrite_refused hform ⟨(0x010, x), ?_, hx⟩) (by decide)
  rw [controlWords_wordBytes]
  exact List.mem_singleton_self _

/-- SWAP validation asks three conditions of each VALID standby entry (R70). -/
theorem WindowTable.swapValid_iff {t : WindowTable} : t.swapValid = true ↔
    ∀ w ∈ t.standbyBank.toList, w.valid = true →
      1 ≤ w.size.toNat ∧ w.loopBase + w.bytes ≤ 2 ^ 32 ∧ w.localBase + w.bytes ≤ 2 ^ 32 := by
  simp only [WindowTable.swapValid, List.all_eq_true, WindowEntry.sound_iff, Nat.reducePow]

/-- SWAP selects the other bank and counts, wrapping (R71). -/
theorem State.command_swap (s : State) : s.command 1 =
    { s with windows := { s.windows with active := if s.windows.active = .a then .b else .a
                                         swapCount := s.windows.swapCount + 1#16 } } := by
  cases h : s.windows.active <;> simp [State.command, WindowTable.swapBanks, Bank.other, h]

/-- COPY puts the active bank's entries in both banks (R69). -/
theorem State.command_copy (s : State) : s.command 2 =
    { s with windows := { s.windows with bankA := s.windows.activeBank, bankB := s.windows.activeBank } } := by
  cases h : s.windows.active <;> simp [State.command, WindowTable.copyBank, WindowTable.setStandby,
    WindowTable.activeBank, WindowTable.bank, h]

end Sys2Proof.Machine

namespace Sys2Proof.Proofs

open Sys2Proof.Machine

/-- Settles O29: the bases are multiples of 8, and a sound entry ends within 2^32. -/
theorem lookupAndTranslation : Obligations.LookupAndTranslation := by
  refine ⟨fun t a w => ?_, fun w a n hs hc hf hn => ⟨WindowEntry.translate_toNat hs hc,
    WindowEntry.translate_range hs hc hf, WindowEntry.translate_lane hs hc,
    beatCount_of_lane hn (WindowEntry.translate_lane hs hc)⟩⟩
  simp only [WindowTable.lookup_eq_some_iff, WindowEntry.contains_iff, and_assoc]

/-- Settles O39: R70's conditions are the only ones under which a SWAP word fails. -/
theorem swapIsValidated : Obligations.SwapIsValidated := by
  rintro e s p rfl hh ha
  refine ⟨fun hsound => ?_, fun hbroken => ?_⟩
  · have hword : s.wordFails 0x010 1#32 = false := by
      simp [State.wordFails, WindowTable.swapValid_iff.mpr hsound]
    rw [State.exec_command_taken rfl hh ha hword]
    exact congrArg (fun t => Host.Outcome.next (State.dispose t .taken _)) (State.command_swap _)
  · have hword : s.wordFails 0x010 1#32 = true :=
      (s.wordFails_command 1#32).mpr (.inr ⟨rfl, WindowTable.swapValid_false.mpr hbroken⟩)
    exact State.exec_command_refused rfl hh ha hword

/-- Settles O40: COPY's word never fails. -/
theorem copyEqualsTheBanks : Obligations.CopyEqualsTheBanks := by
  rintro e s p rfl hh ha
  rw [State.exec_command_taken rfl hh ha rfl]
  exact congrArg (fun t => Host.Outcome.next (State.dispose t .taken _)) (State.command_copy _)

end Sys2Proof.Proofs
end

section
/-! PROOFS. Overlap, blocking and issue, and what an edge does to the operation in flight: no entry is ever ISSUED behind an
older entry that blocks it (R78 to R83, R124, R126 to R129). -/

set_option Elab.async false

namespace Sys2Proof.Machine

/-! ### Overlap and blocking (R78, R79) -/

theorem Entry.overlaps_iff {x y : Entry} (hx : 1 ≤ x.length) (hy : 1 ≤ y.length) :
    x.overlaps y = true ↔ ∃ b : Nat, x.address.toNat ≤ b ∧ b < x.address.toNat + x.length
      ∧ y.address.toNat ≤ b ∧ b < y.address.toNat + y.length := by
  rw [Entry.overlaps, Bool.and_eq_true, decide_eq_true_eq, decide_eq_true_eq]
  constructor
  · rintro ⟨hxy, hyx⟩
    exact ⟨max x.address.toNat y.address.toNat, by omega, by omega, by omega, by omega⟩
  · rintro ⟨b, _, _, _, _⟩
    omega

theorem Entry.blocks_iff {older younger : Entry} : older.blocks younger = true ↔
    older.overlaps younger = true ∧ ¬ (older.kind = .read ∧ younger.kind = .read) := by
  simp [Entry.blocks, Entry.isRead, imp_iff_not_or]

theorem blockedAt_eq {j : List Entry} {k : Nat} {e : Entry} (he : j[k]? = some e) :
    blockedAt j k = (j.take k).any (·.blocks e) := by
  simp only [blockedAt, he]

theorem mem_take_iff {j : List Entry} {k : Nat} {x : Entry} : x ∈ j.take k ↔ ∃ i < k, j[i]? = some x := by
  rw [List.mem_iff_getElem?]
  simp only [List.getElem?_take, Option.ite_none_right_eq_some]

theorem blockedAt_iff {j : List Entry} {k : Nat} : blockedAt j k = true ↔
    ∃ younger, j[k]? = some younger ∧ ∃ older ∈ j.take k, older.blocks younger = true := by
  cases he : j[k]? with
  | none => simp [blockedAt, he]
  | some e => simp only [blockedAt_eq he, List.any_eq_true, Option.some.injEq, exists_eq_left']

/-! ### Waking (R105) -/

theorem Entry.ofGroup_iff {g : BitVec 3} {e : Entry} : e.ofGroup g = true ↔ e.kind = .staged g := by
  simp [Entry.ofGroup]

theorem Entry.isIssued_iff {e : Entry} : e.isIssued = true ↔ e.state = .issued := by
  simp [Entry.isIssued]

theorem Entry.wake_kind (g : BitVec 3) (e : Entry) : (e.wake g).kind = e.kind := by
  unfold Entry.wake
  split <;> rfl

theorem Entry.wake_other {g : BitVec 3} {e : Entry} (h : e.kind ≠ .staged g) : e.wake g = e := by
  simp [Entry.wake, Entry.ofGroup, h]

theorem Entry.wake_unparked {g : BitVec 3} {e : Entry} (h : e.state ≠ .parked) : e.wake g = e := by
  simp [Entry.wake, h]

/-- No entry of the group is PARKED once it has woken (R105). -/
theorem Entry.wake_same_state {g : BitVec 3} {e : Entry} (h : e.kind = .staged g) : (e.wake g).state ≠ .parked := by
  unfold Entry.wake
  split
  · exact EntryState.noConfusion
  · next hn =>
    intro hparked
    exact hn (by simp [Entry.ofGroup, h, hparked])

theorem Entry.wake_isIssued (g : BitVec 3) (e : Entry) : (e.wake g).isIssued = e.isIssued := by
  by_cases h : e.state = .parked
  · unfold Entry.wake
    split
    · simp [Entry.isIssued, h]
    · rfl
  · rw [Entry.wake_unparked h]

/-- Waking changes STATE alone, and no entry's range. -/
theorem Entry.wake_blocks (g : BitVec 3) (older younger : Entry) :
    (older.wake g).blocks (younger.wake g) = older.blocks younger := by
  have range : ∀ e : Entry, (e.wake g).address = e.address ∧ (e.wake g).length = e.length := fun e => by
    unfold Entry.wake
    split <;> exact ⟨rfl, rfl⟩
  obtain ⟨haddress, hlength⟩ := range older
  obtain ⟨haddress', hlength'⟩ := range younger
  simp only [Entry.blocks, Entry.overlaps, Entry.isRead, Entry.wake_kind, haddress, hlength, haddress', hlength']

/-! ### Issue (R81 to R83, R124, R143) -/

theorem readyAt_iff {j : List Entry} {k : Nat} : readyAt j k = true ↔
    ∃ e, j[k]? = some e ∧ e.state = .waiting ∧ blockedAt j k = false := by
  unfold readyAt
  split
  · next h => simp [h]
  · next e h => simp [h]

theorem readyAt_false {j : List Entry} {k : Nat}
    (h : ∀ x, j[k]? = some x → x.state ≠ .waiting ∨ blockedAt j k = true) : readyAt j k = false := by
  refine Bool.eq_false_iff.mpr fun hready => ?_
  obtain ⟨x, hx, hwaiting, hfree⟩ := readyAt_iff.mp hready
  rcases h x hx with hstate | hblocked
  · exact hstate hwaiting
  · exact Bool.false_ne_true (hfree.symm.trans hblocked)

theorem oldestReady_eq_some {j : List Entry} {k : Nat} (hready : readyAt j k = true)
    (holder : ∀ i < k, readyAt j i = false) : oldestReady j = some k := by
  have hk : k < j.length := by
    obtain ⟨e, he, _⟩ := readyAt_iff.mp hready
    exact (List.getElem?_eq_some_iff.mp he).1
  refine List.find?_range_eq_some.mpr ⟨hready, List.mem_range.mpr hk, fun i hi => ?_⟩
  rw [holder i hi]
  rfl

theorem Gate.permits_iff {g : Gate} : g.permits = true ↔ g.mode = .opened ∨ 0 < g.credits := by
  simp [Gate.permits]

theorem Gate.use_eq (g : Gate) : g.use = if g.mode = .held then { g with credits := g.credits - 1 } else g := by
  unfold Gate.use
  split
  · next h => simp [h]
  · next h => simp [h]

theorem State.takeIssue_of_oldest {s : State} {k : Nat} {e : Entry} (hp : s.powered = true) (hx : s.executor = .idle)
    (hg : s.gate.permits = true) (hk : oldestReady s.journal = some k) (he : s.journal[k]? = some e) :
    s.takeIssue = s.issueAt k e := by
  simp [State.takeIssue, hp, hx, hg, hk, he]

/-- A busy executor, a gate that permits none or no ready entry: no issue (R82, R83). -/
theorem State.takeIssue_none {s : State} (h : s.executor ≠ .idle ∨ s.gate.permits = false
    ∨ ∀ i, readyAt s.journal i = false) : s.takeIssue = s := by
  rcases s.takeIssue_cases with hsame | ⟨k, e, _, hidle, hpermits, hk, _⟩
  · exact hsame
  · rcases h with hx | hg | hnone
    · exact absurd hidle hx
    · exact absurd hpermits (Bool.eq_false_iff.mp hg)
    · obtain ⟨_, hready, _⟩ := oldestReady_some hk
      exact absurd hready (Bool.eq_false_iff.mp (hnone k))

/-- The entry that an issue takes stands in its place among the older and the younger ones (R82). -/
theorem issue_splits {j : List Entry} {k : Nat} {e : Entry} (he : j[k]? = some e) (e' : Entry) :
    ∃ younger, j = j.take k ++ e :: younger ∧ j.set k e' = j.take k ++ e' :: younger := by
  obtain ⟨hk, rfl⟩ := List.getElem?_eq_some_iff.mp he
  exact ⟨j.drop (k + 1), by rw [← List.drop_eq_getElem_cons hk, List.take_append_drop],
    List.set_eq_take_append_cons_drop.trans (if_pos hk)⟩

/-! ### What an edge does to the operation in flight (R126 to R129) -/

/-- The operation holds the entry's KIND, TAG, LOCAL ADDRESS, LENGTH and DATA (R120, R124). -/
def Operation.Copies (op : Operation) (e : Entry) : Prop :=
  op.kind = e.kind ∧ op.tag = e.tag ∧ op.address = e.address ∧ op.length = e.length ∧ op.data = e.data

/-- An operation fails with a STATUS of its own: neither OK nor ABANDONED (R13, R87). -/
def Ending.Sound : Ending → Prop
  | .ok => True
  | .failed st => st ≠ .ok ∧ st ≠ .abandoned

/-- What an edge does while `op` is in flight. -/
inductive State.Progresses (s : State) (op : Operation) : State → Prop where
  /-- The operation stays in flight, with the fields copied at its issue. -/
  | moves (x : Executor) (op' : Operation) (inFlight : x.inFlight = some op') (copies : ∀ e, op.Copies e → op'.Copies e) :
      s.Progresses op (s.enter x)
  /-- The operation ends (R131). -/
  | ends (op' : Operation) (o : Ending) (sound : o.Sound) : s.Progresses op (s.finish op' o)

theorem State.requestEdge_progresses (s : State) (op : Operation) (lgnt : Bool) :
    s.Progresses op (s.requestEdge op lgnt) := by
  unfold State.requestEdge
  split
  · exact .moves _ _ rfl fun _ => id
  · split
    · exact .ends _ _ ⟨by decide, by decide⟩
    · exact .moves _ _ rfl fun _ => id

theorem Operation.gather_copies {op : Operation} (ld : BitVec 64) {e : Entry} (h : op.Copies e) : (op.gather ld).Copies e := by
  rw [Operation.gather_eq]
  exact h

theorem State.stretch_progresses (s : State) (op : Operation) : s.Progresses op (s.stretch op) := by
  unfold State.stretch
  split
  · exact .ends _ _ ⟨by decide, by decide⟩
  · exact .moves _ _ rfl fun _ => id

theorem State.beatDone_progresses (s : State) (op : Operation) (ld : BitVec 64) : s.Progresses op (s.beatDone op ld) := by
  unfold State.beatDone
  split
  · exact .ends _ _ trivial
  · exact .moves _ _ rfl fun _ => Operation.gather_copies ld

theorem State.beatEdge_progresses (s : State) (op : Operation) (lgnt lerr lwait : Bool) (ld : BitVec 64) :
    s.Progresses op (s.beatEdge op lgnt lerr lwait ld) := by
  unfold State.beatEdge
  split
  · exact .ends _ _ ⟨by decide, by decide⟩
  · split
    · exact .ends _ _ ⟨by decide, by decide⟩
    · split
      · exact s.stretch_progresses op
      · exact s.beatDone_progresses op ld

/-! ### Where the journal only loses entries -/

theorem State.accountStaged_journal (s : State) (g : BitVec 3) (tag : Byte) (o : Ending) :
    (s.accountStaged g tag o).journal = s.journal := by
  unfold State.accountStaged
  simp only
  split <;> rfl

/-- Accounting for an entry that has left the journal leaves the journal as it is (R88 to R91). -/
theorem State.account_journal (s : State) (e : Entry) (op : Operation) (o : Ending) :
    (s.account e op o).journal = s.journal := by
  cases o with
  | ok =>
    simp only [State.account]
    split
    · rfl
    · rfl
    · exact s.accountStaged_journal _ _ _
  | failed st =>
    simp only [State.account]
    split
    · rfl
    · rfl
    · exact s.accountStaged_journal _ _ _

theorem State.finish_journal_sublist (s : State) (op : Operation) (o : Ending) :
    (s.finish op o).journal.Sublist s.journal := by
  unfold State.finish
  split
  · exact List.Sublist.refl _
  · rw [State.account_journal]
    exact List.eraseP_sublist

theorem State.Progresses.journal_sublist {s t : State} {op : Operation} (h : s.Progresses op t) :
    t.journal.Sublist s.journal := by
  cases h with
  | moves => exact List.Sublist.refl _
  | ends => exact s.finish_journal_sublist _ _

theorem State.localResetCommand_journal (s : State) : s.localResetCommand.journal = [] := by
  unfold State.localResetCommand
  split <;> rfl

theorem State.applyWord_journal_sublist (s : State) (a : Nat) (x : Word) : (s.applyWord a x).journal.Sublist s.journal := by
  have hcommand : (s.command x.toNat).journal.Sublist s.journal := by
    unfold State.command
    split
    · exact List.Sublist.refl _
    · exact List.Sublist.refl _
    · exact List.Sublist.refl _
    · rw [State.localResetCommand_journal]
      exact List.nil_sublist _
    · exact List.Sublist.refl _
  unfold State.applyWord
  split
  · exact List.Sublist.refl _
  · split
    · exact List.Sublist.refl _
    · split
      · exact hcommand
      · exact List.Sublist.refl _

theorem State.applyWords_journal_sublist (s : State) (words : List (Nat × Word)) :
    (s.applyWords words).journal.Sublist s.journal := by
  induction words generalizing s with
  | nil => exact List.Sublist.refl _
  | cons w words ih => exact (ih _).trans (s.applyWord_journal_sublist w.1 w.2)

/-! ### No entry is ISSUED behind one that blocks it (R80) -/

/-- R80 of a journal, oldest entry first. -/
def NoneIssuedBehind (j : List Entry) : Prop :=
  j.Pairwise (fun older younger => younger.isIssued = true → older.blocks younger = false)

namespace NoneIssuedBehind

variable {j : List Entry}

/-- Entries that leave the journal block no others. -/
theorem sublist {j' : List Entry} (h : NoneIssuedBehind j) (hj : j'.Sublist j) : NoneIssuedBehind j' :=
  List.Pairwise.sublist hj h

/-- An entry that joins is not ISSUED. -/
theorem append {e : Entry} (h : NoneIssuedBehind j) (he : e.state ≠ .issued) : NoneIssuedBehind (j ++ [e]) := by
  refine List.pairwise_append.mpr ⟨h, List.pairwise_singleton _ _, fun x _ y hy hissued => ?_⟩
  obtain rfl := List.mem_singleton.mp hy
  exact absurd (beq_iff_eq.mp hissued) he

/-- Waking changes neither which entries are ISSUED nor which block which (R105). -/
theorem wake (h : NoneIssuedBehind j) (g : BitVec 3) : NoneIssuedBehind (j.map (Entry.wake g)) := by
  refine h.map (Entry.wake g) fun older younger hpair hissued => ?_
  rw [Entry.wake_isIssued] at hissued
  rw [Entry.wake_blocks]
  exact hpair hissued

/-- An issue takes an entry that no older one blocks (R81, R82). -/
theorem issue {k : Nat} {e : Entry} (h : NoneIssuedBehind j) (he : j[k]? = some e) (hready : readyAt j k = true) :
    NoneIssuedBehind (j.set k { e with state := .issued }) := by
  obtain ⟨younger, hj, hset⟩ := issue_splits he { e with state := .issued }
  obtain ⟨e', he', _, hfree⟩ := readyAt_iff.mp hready
  obtain rfl : e = e' := Option.some.inj (he.symm.trans he')
  rw [blockedAt_eq he, List.any_eq_false] at hfree
  rw [NoneIssuedBehind, hj] at h
  obtain ⟨holder, hrest, hacross⟩ := List.pairwise_append.mp h
  obtain ⟨hbehind, hyounger⟩ := List.pairwise_cons.mp hrest
  rw [NoneIssuedBehind, hset]
  refine List.pairwise_append.mpr ⟨holder, List.pairwise_cons.mpr ⟨hbehind, hyounger⟩, fun x hx y hy hissued => ?_⟩
  rcases List.mem_cons.mp hy with rfl | hy
  · exact Bool.eq_false_iff.mpr (hfree x hx)
  · exact hacross x hx y (List.mem_cons_of_mem _ hy) hissued

end NoneIssuedBehind

theorem State.commitGroup_overlapLaw {s : State} (h : s.overlapLaw) (g : BitVec 3) (tag : Byte) :
    (s.commitGroup g tag).overlapLaw := by
  unfold State.commitGroup
  split
  · exact NoneIssuedBehind.wake h g
  · exact h

theorem State.discardGroup_overlapLaw {s : State} (h : s.overlapLaw) (g : BitVec 3) (tag : Byte) :
    (s.discardGroup g tag).overlapLaw := by
  unfold State.discardGroup
  split
  · exact NoneIssuedBehind.sublist h List.filter_sublist
  · exact h

/-- What the owning block does with work keeps R80: what joins the journal is WAITING or PARKED (R50 to R56). -/
theorem State.handOn_overlapLaw {s : State} (h : s.overlapLaw) (tag : Byte) (w : Work) : (s.handOn tag w).overlapLaw := by
  cases w with
  | memoryRead | memoryWrite | stage => exact NoneIssuedBehind.append h (by simp [State.accessEntry])
  | commit g => exact State.commitGroup_overlapLaw h g tag
  | discard g => exact State.discardGroup_overlapLaw h g tag
  | loopReset => exact List.Pairwise.nil
  | controlWrite words => exact NoneIssuedBehind.sublist h (s.applyWords_journal_sublist words)
  | sweep | step | number | controlRead => exact h

theorem State.powerFail_overlapLaw {s : State} (h : s.overlapLaw) : s.powerFail.overlapLaw := by
  unfold State.powerFail
  split
  · exact List.Pairwise.nil
  · exact h

theorem overlapLaw_of_happening {s t : State} (h : s.overlapLaw) (ht : Happening s t) : t.overlapLaw := by
  cases ht with
  | takesBroadcast gap p => exact State.handOn_overlapLaw (s := s.heard gap p) h p.tag p.work
  | takesUnicast gap p => exact State.handOn_overlapLaw (s := s.heard gap p) h p.tag p.work
  | powersOn => exact List.Pairwise.nil
  | powerFails => exact State.powerFail_overlapLaw h
  | issues k e _ _ _ oldest entry =>
    obtain ⟨_, hready, _⟩ := oldestReady_some oldest
    exact NoneIssuedBehind.issue h entry hready
  | requestEdge op lgnt => exact NoneIssuedBehind.sublist h (s.requestEdge_progresses op lgnt).journal_sublist
  | beatEdge op lgnt lerr lwait ld =>
    exact NoneIssuedBehind.sublist h (s.beatEdge_progresses op lgnt lerr lwait ld).journal_sublist
  | lrstFalls => exact List.Pairwise.nil
  | _ => exact h

end Sys2Proof.Machine

namespace Sys2Proof.Proofs

open Sys2Proof.Machine

/-- Settles O30: a common byte is the larger of the two starts, and blocking is judged over the older entries. -/
theorem overlapAndBlocking : Obligations.OverlapAndBlocking := by
  refine ⟨fun x y hx hy => Entry.overlaps_iff hx hy, fun j k => ?_⟩
  simp only [blockedAt_iff, mem_take_iff, Entry.blocks_iff]
  constructor
  · rintro ⟨younger, hyounger, older, ⟨i, hi, holder⟩, hblocks⟩
    exact ⟨younger, hyounger, i, older, hi, holder, hblocks⟩
  · rintro ⟨younger, hyounger, i, older, hi, holder, hblocks⟩
    exact ⟨younger, hyounger, older, ⟨i, hi, holder⟩, hblocks⟩

/-- Settles O44: the oldest ready entry by its position, and the three ways to have no issue. -/
theorem issueTakesTheOldestReadyEntry : Obligations.IssueTakesTheOldestReadyEntry := by
  refine fun s hp => ⟨fun k e hidle hgate he hwaiting hfree holder => ?_, fun hnone => ?_⟩
  · have holdest : oldestReady s.journal = some k :=
      oldestReady_eq_some (readyAt_iff.mpr ⟨e, he, hwaiting, hfree⟩) fun i hi =>
        readyAt_false fun x hx => holder i x hi hx
    show Host.Outcome.next s.takeIssue = _
    rw [State.takeIssue_of_oldest hp hidle (Gate.permits_iff.mpr hgate) holdest he, ← Gate.use_eq]
    rfl
  · refine congrArg Host.Outcome.next (State.takeIssue_none ?_)
    rcases hnone with hx | ⟨hheld, hcredits⟩ | hready
    · exact .inl hx
    · exact .inr (.inl (by simp [Gate.permits, hheld, hcredits]))
    · exact .inr (.inr fun i => readyAt_false fun x hx => hready i x hx)

/-- Settles O53, by cases on what a step does to the journal. -/
theorem everyStepKeepsTheOverlapLaw : Obligations.EveryStepKeepsTheOverlapLaw := by
  intro s t h hstep
  have hqueue : State.overlapLaw { s with pending := s.pending.tail } := h
  exact overlapLaw_of_happening hqueue (step_happening hstep)

end Sys2Proof.Proofs
end

section
/-! PROOFS. The end of an operation and the local reset, as whole next states (R87 to R91, R94, R110 to R114, R131, R134, R136). -/

set_option Elab.async false

namespace Sys2Proof.Machine

/-! ### The end of an operation (R87 to R91, R110 to R112, R165) -/

theorem Group.account_ok (r : Group) (tag : Byte) :
    r.account tag .ok = { r with written := r.written + 1, entryCount := r.entryCount - 1 } := rfl

/-- The first failed completion in time is the one kept (R111). -/
theorem Group.account_failed (r : Group) (tag : Byte) (st : Status) : r.account tag (.failed st) =
    { r with
      failed := r.failed + 1, entryCount := r.entryCount - 1
      first := if r.first = none then some (tag, st) else r.first } := by
  cases h : r.first <;> simp [Group.account, h]

theorem Group.doneStatus_eq (r : Group) :
    r.doneStatus = if r.failed = 0 then .ok else (r.first.map (·.2)).getD .ok := by
  unfold Group.doneStatus
  split
  · next h => simp [h]
  · next h => simp [h]

/-- The last entry of a COMMITTING group answers its COMMIT (R112). -/
theorem State.accountStaged_last {s : State} {g : BitVec 3} {tag : Byte} {o : Ending}
    (hs : ((s.group g).account tag o).state = .committing) (hn : ((s.group g).account tag o).entryCount = 0) :
    s.accountStaged g tag o = (s.setGroup g Group.cleared).convertReply
      (((s.group g).account tag o).commitTag.getD 0#8)
      (((s.group g).account tag o).doneBody ((s.group g).account tag o).doneStatus 0) :=
  if_pos ⟨hs, hn⟩

/-- Any other staged completion is counted in its group's record (R110). -/
theorem State.accountStaged_counted {s : State} {g : BitVec 3} {tag : Byte} {o : Ending}
    (h : ((s.group g).account tag o).state ≠ .committing ∨ ((s.group g).account tag o).entryCount ≠ 0) :
    s.accountStaged g tag o = s.setGroup g ((s.group g).account tag o) :=
  if_neg fun ⟨hs, hn⟩ => h.elim (absurd hs) (absurd hn)

/-- What the ISSUED entry leaves behind, by its kind. -/
theorem State.account_read {e : Entry} (he : e.kind = .read) (s : State) (op : Operation) :
    s.account e op .ok = s.convertReply e.tag (.readData op.gathered)
    ∧ ∀ st, s.account e op (.failed st) = s.convertReply e.tag (.readError st) := by
  simp [State.account, he]

theorem State.account_posted {e : Entry} (he : e.kind = .posted) (s : State) (op : Operation) :
    s.account e op .ok = s
    ∧ ∀ st, s.account e op (.failed st)
        = s.offerFault (.postedWriteFailed st e.tag (BitVec.ofNat 32 op.beatAt) op.beat) := by
  simp [State.account, he]

theorem State.account_staged {e : Entry} {g : BitVec 3} (he : e.kind = .staged g) (s : State) (op : Operation) (o : Ending) :
    s.account e op o = s.accountStaged g e.tag o := by
  cases o <;> simp [State.account, he]

/-! ### Local reset (R94, R113, R134) -/

theorem filterMap_ite {α β : Type} (p : α → Prop) [DecidablePred p] (f : α → β) (l : List α) :
    l.filterMap (fun x => if p x then some (f x) else none) = (l.filter (fun x => p x)).map f := by
  rw [← List.filterMap_eq_map', List.filterMap_filter]
  simp only [decide_eq_true_eq]

/-- The READ-ERRORs of a local reset, by age (R94). -/
theorem abandonedReads_eq (j : List Entry) : j.filterMap Entry.abandonedReply =
    (j.filter (fun x => x.kind = .read)).map (fun x => ⟨x.tag, .readError .abandoned, none⟩) := by
  rw [← filterMap_ite]
  refine List.filterMap_congr fun x _ => ?_
  simp [Entry.abandonedReply, Entry.isRead]

/-- The COMMIT-DONEs of a local reset, by group number (R113). -/
theorem State.abandonedDones_eq (s : State) : groupNumbers.filterMap s.abandonedDone =
    (groupNumbers.filter (fun g => (s.group g).state = .committing)).map (fun g =>
      ⟨(s.group g).commitTag.getD 0#8, .commitDone .abandoned (s.group g).written (s.group g).failed
        ((s.group g).abandoned + s.journal.countP (fun x => x.kind = .staged g))
        (if (s.group g).failed = 0 then none else (s.group g).first), none⟩) := by
  rw [← filterMap_ite]
  exact List.filterMap_congr fun g _ => rfl

theorem ReplyUnit.offerFault_eq (r : ReplyUnit) (c : FaultCause) : r.offerFault c =
    { r with
      faults := if r.faults.length < 4 then r.faults ++ [⟨c, r.lostFaults, none⟩] else r.faults
      lostFaults := if r.faults.length < 4 then 0 else min (r.lostFaults + 1) 255 } := by
  unfold ReplyUnit.offerFault
  split
  · next h =>
    have h : r.faults.length < 4 := h
    simp only [h, if_true]
  · next h =>
    have h : ¬ r.faults.length < 4 := h
    simp only [h, if_false, Config.lostCap]

end Sys2Proof.Machine

namespace Sys2Proof.Proofs

open Sys2Proof.Machine

/-- Settles O49: the ISSUED entry leaves its position, then what its kind accounts for. -/
theorem endOfAnOperation : Obligations.EndOfAnOperation := by
  intro s t op older younger e hj holder he ht
  have hfinish : ∀ op' o, s.finish op' o = t.account e op' o := fun op' o => by
    rw [ht]
    refine State.finish_of_split op' o hj (fun x hx => ?_) (beq_iff_eq.mpr he)
    exact beq_eq_false_iff_ne.mpr (holder x hx)
  have hreplies : t.replies = s.replies := ht ▸ rfl
  have hgroups : t.groups = s.groups := ht ▸ rfl
  simp only [hfinish]
  refine ⟨fun hk => ?_, fun hk => ?_, fun g o r hk hr => ?_⟩
  · obtain ⟨hok, hfailed⟩ := t.account_read hk op
    rw [← hreplies]
    exact ⟨hok, hfailed⟩
  · obtain ⟨hok, hfailed⟩ := t.account_posted hk op
    rw [← hreplies]
    exact ⟨hok, hfailed⟩
  · have hrecord : r = (t.group g).account e.tag o := by
      rw [State.group_congr _ _ hgroups, hr]
      cases o with
      | ok => rw [Group.account_ok]
      | failed st => rw [Group.account_failed]
    subst hrecord
    rw [State.account_staged hk]
    refine ⟨fun hs hn => ?_, fun hmore => ?_⟩
    · rw [State.accountStaged_last hs hn, Group.doneBody, Group.doneStatus_eq, ← hreplies, ← hgroups]
      rfl
    · rw [State.accountStaged_counted hmore, ← hgroups]
      rfl

/-- Settles O50: the fall by the replies it makes, the rise by the level and the executor. -/
theorem lrstFallAndRise : Obligations.LrstFallAndRise := by
  refine fun s hp => ⟨fun made lost hhigh hmade hlost => ?_, fun hlow hx => ?_, fun hlow => ?_, fun hhigh => ?_⟩
  · have hreplies : s.abandonedReplies = made := by
      rw [hmade, State.abandonedReplies, abandonedReads_eq, State.abandonedDones_eq]
      rfl
    have hfall : exec .lrstFall s = .next { s.localResetSequence with lrstLow := true } := by
      simp [exec, execLrstFall, hp, hhigh]
    rw [hfall, State.localResetSequence, ReplyUnit.offerFault_eq, hreplies, hlost]
    rfl
  · simp only [exec, execLrstRise, hp, hlow, State.localHeld_iff.mpr hx]
    rfl
  · simp [exec, execLrstFall, hp, hlow]
  · simp [exec, execLrstRise, hp, hhigh]

end Sys2Proof.Proofs
end

section
/-! PROOFS. The laws of accepted work in two parts: the operation in flight with its ISSUED entry, and the ledger of groups,
reservations and room; what each needs of the journal's entries (R82, R100, R101, R105, R120, R150). -/

set_option Elab.async false

namespace Sys2Proof.Machine

/-! ### A group's entries in the journal (R101) -/

/-- The journal entries of group `g`, oldest first. -/
def entriesOf (g : BitVec 3) (j : List Entry) : List Entry := j.filter (Entry.ofGroup g)

theorem mem_entriesOf {g : BitVec 3} {j : List Entry} {e : Entry} : e ∈ entriesOf g j ↔ e ∈ j ∧ e.kind = .staged g := by
  rw [entriesOf, List.mem_filter, Entry.ofGroup_iff]

theorem entriesOf_append (g : BitVec 3) (j j' : List Entry) : entriesOf g (j ++ j') = entriesOf g j ++ entriesOf g j' :=
  List.filter_append _ _

theorem entriesOf_cons_same {g : BitVec 3} {e : Entry} (h : e.kind = .staged g) (j : List Entry) :
    entriesOf g (e :: j) = e :: entriesOf g j :=
  List.filter_cons_of_pos (Entry.ofGroup_iff.mpr h)

theorem entriesOf_cons_other {g : BitVec 3} {e : Entry} (h : e.kind ≠ .staged g) (j : List Entry) :
    entriesOf g (e :: j) = entriesOf g j :=
  List.filter_cons_of_neg (mt Entry.ofGroup_iff.mp h)

theorem entriesOf_join_other {g : BitVec 3} {e : Entry} (h : e.kind ≠ .staged g) (j : List Entry) :
    entriesOf g (j ++ [e]) = entriesOf g j := by
  rw [entriesOf_append, entriesOf_cons_other h]
  exact List.append_nil _

/-- An entry of another group or of none leaves, and group `g` loses nothing. -/
theorem entriesOf_leave_other {g : BitVec 3} {e : Entry} (h : e.kind ≠ .staged g) (older younger : List Entry) :
    entriesOf g (older ++ e :: younger) = entriesOf g (older ++ younger) := by
  rw [entriesOf_append, entriesOf_cons_other h, entriesOf_append]

theorem entriesOf_wake (g h : BitVec 3) (j : List Entry) :
    entriesOf h (j.map (Entry.wake g)) = (entriesOf h j).map (Entry.wake g) := by
  rw [entriesOf, List.filter_map]
  refine congrArg _ (List.filter_congr fun e _ => ?_)
  simp [Entry.ofGroup, Entry.wake_kind]

theorem entriesOf_wake_other {g h : BitVec 3} (hne : h ≠ g) (j : List Entry) :
    entriesOf h (j.map (Entry.wake g)) = entriesOf h j := by
  rw [entriesOf_wake]
  refine (List.map_congr_left (g := id) fun e he => Entry.wake_other fun hk => ?_).trans (List.map_id _)
  exact hne (EntryKind.staged.inj ((mem_entriesOf.mp he).2.symm.trans hk))

/-- The entries that a DISCARD of group `g` leaves (R108). -/
theorem entriesOf_discard (g h : BitVec 3) (j : List Entry) :
    entriesOf h (j.filter (fun e => !e.ofGroup g)) = if h = g then [] else entriesOf h j := by
  rw [entriesOf, List.filter_filter]
  split
  · next heq =>
    subst heq
    exact List.filter_eq_nil_iff.mpr fun e _ => by simp
  · next hne =>
    refine List.filter_congr fun e _ => ?_
    cases hk : e.ofGroup h with
    | false => rfl
    | true =>
      have hother : e.ofGroup g = false := Bool.eq_false_iff.mpr fun hg =>
        hne (EntryKind.staged.inj ((Entry.ofGroup_iff.mp hk).symm.trans (Entry.ofGroup_iff.mp hg)))
      simp [hother]

/-! ### What waking and discarding leave of the other entries -/

theorem wake_issuedEntries (g : BitVec 3) (j : List Entry) :
    (j.map (Entry.wake g)).filter Entry.isIssued = j.filter Entry.isIssued := by
  have hissued : Entry.isIssued ∘ Entry.wake g = Entry.isIssued := funext (Entry.wake_isIssued g)
  rw [List.filter_map, hissued]
  refine (List.map_congr_left (g := id) fun e he => Entry.wake_unparked fun hparked => ?_).trans (List.map_id _)
  exact nomatch hparked.symm.trans (Entry.isIssued_iff.mp (List.mem_filter.mp he).2)

theorem wake_countP_isRead (g : BitVec 3) (j : List Entry) :
    (j.map (Entry.wake g)).countP Entry.isRead = j.countP Entry.isRead := by
  rw [List.countP_map]
  exact List.countP_congr fun e _ => by simp [Entry.isRead, Entry.wake_kind]

/-- Where no entry of the group is ISSUED, a DISCARD leaves the ISSUED ones. -/
theorem discard_issuedEntries {g : BitVec 3} {j : List Entry} (h : ∀ e ∈ entriesOf g j, e.state ≠ .issued) :
    (j.filter (fun e => !e.ofGroup g)).filter Entry.isIssued = j.filter Entry.isIssued := by
  rw [List.filter_filter]
  refine List.filter_congr fun e he => ?_
  cases hissued : e.isIssued with
  | false => rfl
  | true =>
    have hother : e.ofGroup g = false := Bool.eq_false_iff.mpr fun hg =>
      h e (List.mem_filter.mpr ⟨he, hg⟩) (Entry.isIssued_iff.mp hissued)
    rw [hother]
    rfl

theorem discard_countP_isRead (g : BitVec 3) (j : List Entry) :
    (j.filter (fun e => !e.ofGroup g)).countP Entry.isRead = j.countP Entry.isRead := by
  rw [List.countP_filter]
  refine List.countP_congr fun e _ => ?_
  cases hk : e.kind <;> simp [Entry.isRead, Entry.ofGroup, hk]

/-! ### A group's record and its entries (R100, R101, R110, R111) -/

/-- The record is what R100 and R101 ask of a group whose journal entries are `entries`. -/
structure Group.Agrees (r : Group) (entries : List Entry) : Prop where
  record : r.recordOk
  count : r.entryCount = entries.length
  empty_iff : r.entryCount = 0 ↔ r.state = .empty
  parked_iff : ∀ e ∈ entries, e.state = .parked ↔ r.state = .opened

theorem Group.recordOk_opened {n : Nat} (h : n ≤ 32) :
    Group.recordOk { Group.cleared with state := .opened, entryCount := n } :=
  ⟨h, fun hs => (nomatch hs), fun _ => rfl, fun hs => (nomatch hs)⟩

theorem Group.recordOk_committing {r : Group} (hs : r.state = .committing) : r.recordOk ↔
    r.entryCount + r.written + r.failed ≤ 32 ∧ r.commitTag ≠ none ∧ r.abandoned = 0 ∧ (r.first = none ↔ r.failed = 0)
      ∧ ∀ f ∈ r.first, f.2 ≠ .ok ∧ f.2 ≠ .abandoned := by
  simp [Group.recordOk, hs]

theorem Group.eq_opened {r : Group} (h : r.recordOk) (hs : r.state = .opened) :
    r = { Group.cleared with state := .opened, entryCount := r.entryCount } := by
  obtain ⟨_, _, hopened, _⟩ := h
  exact hopened hs

namespace Group.Agrees

variable {r : Group} {entries older younger : List Entry} {e : Entry}

theorem cleared : Group.cleared.Agrees [] :=
  ⟨Group.cleared_recordOk, rfl, ⟨fun _ => rfl, fun _ => rfl⟩, fun _ he => absurd he List.not_mem_nil⟩

/-- The group of an entry that is not PARKED is COMMITTING (R101). -/
theorem committing (h : r.Agrees entries) (he : e ∈ entries) (hstate : e.state ≠ .parked) : r.state = .committing := by
  cases hs : r.state with
  | empty =>
    have hnone : entries.length = 0 := h.count ▸ h.empty_iff.mpr hs
    exact absurd hnone (List.length_pos_of_mem he).ne'
  | opened => exact absurd ((h.parked_iff e he).mpr hs) hstate
  | committing => rfl

/-- An entry that changes STATE but stays out of PARKED leaves the record as it should be. -/
theorem replace (h : r.Agrees (older ++ e :: younger)) {e' : Entry} (hstate : e'.state = .parked ↔ e.state = .parked) :
    r.Agrees (older ++ e' :: younger) := by
  refine ⟨h.record, by simpa using h.count, h.empty_iff, fun x hx => ?_⟩
  rcases List.mem_append.mp hx with hx | hx
  · exact h.parked_iff x (List.mem_append_left _ hx)
  · rcases List.mem_cons.mp hx with rfl | hx
    · exact hstate.trans (h.parked_iff e (by simp))
    · exact h.parked_iff x (by simp [hx])

/-- A STAGE joins its group, which is OPEN then (R103). -/
theorem addEntry (h : r.Agrees entries) (hs : r.state ≠ .committing) (hroom : entries.length < 32) (he : e.state = .parked) :
    r.addEntry.Agrees (entries ++ [e]) := by
  have opened : ∀ n, n = entries.length → (∀ x ∈ entries, x.state = .parked) →
      Group.Agrees { Group.cleared with state := .opened, entryCount := n + 1 } (entries ++ [e]) := by
    intro n hn hparked
    refine ⟨Group.recordOk_opened (by omega), by simp [hn], ⟨nofun, nofun⟩, fun x hx => ⟨fun _ => rfl, fun _ => ?_⟩⟩
    rcases List.mem_append.mp hx with hx | hx
    · exact hparked x hx
    · obtain rfl := List.mem_singleton.mp hx
      exact he
  cases hstate : r.state with
  | empty =>
    have hzero : 0 = entries.length := h.count ▸ (h.empty_iff.mpr hstate).symm
    rw [Group.addEntry_empty hstate]
    refine opened 0 hzero fun x hx => absurd hzero (List.length_pos_of_mem hx).ne
  | opened =>
    rw [Group.addEntry_opened hstate, Group.eq_opened h.record hstate]
    exact opened _ h.count fun x hx => (h.parked_iff x hx).mpr hstate
  | committing => exact absurd hstate hs

/-- A COMMIT wakes the entries of an OPEN group (R105). -/
theorem commit (h : r.Agrees entries) (hs : r.state = .opened) {g : BitVec 3} (hg : ∀ x ∈ entries, x.kind = .staged g)
    (tag : Byte) :
    Group.Agrees { r with state := .committing, commitTag := some tag } (entries.map (Entry.wake g)) := by
  have hcount := h.count
  have hempty := h.empty_iff
  have hbound : r.entryCount + r.written + r.failed ≤ 32 := h.record.1
  rw [Group.eq_opened h.record hs] at hcount hempty hbound ⊢
  refine ⟨(Group.recordOk_committing rfl).mpr ⟨hbound, nofun, rfl, ⟨fun _ => rfl, fun _ => rfl⟩, nofun⟩, ?_, ?_, ?_⟩
  · simpa using hcount
  · exact ⟨fun hz => (nomatch hempty.mp hz), nofun⟩
  · intro x hx
    obtain ⟨y, hy, rfl⟩ := List.mem_map.mp hx
    exact ⟨fun hparked => absurd hparked (Entry.wake_same_state (hg y hy)), nofun⟩

end Group.Agrees

theorem Group.account_state (r : Group) (tag : Byte) (o : Ending) : (r.account tag o).state = r.state := by
  cases o <;> rfl

theorem Group.account_entryCount (r : Group) (tag : Byte) (o : Ending) :
    (r.account tag o).entryCount = r.entryCount - 1 := by
  cases o <;> rfl

/-- One staged completion turns one entry of a COMMITTING group into one write counted, written or failed (R110, R111). -/
theorem Group.account_recordOk {r : Group} (h : r.recordOk) (hs : r.state = .committing) (hpos : 0 < r.entryCount)
    (tag : Byte) {o : Ending} (ho : o.Sound) : (r.account tag o).recordOk := by
  obtain ⟨hbound, htag, habandoned, hfirst, hstatus⟩ := (Group.recordOk_committing hs).mp h
  rw [Group.recordOk_committing ((r.account_state tag o).trans hs)]
  cases o with
  | ok =>
    rw [Group.account_ok]
    exact ⟨by show r.entryCount - 1 + (r.written + 1) + r.failed ≤ 32; omega, htag, habandoned, hfirst, hstatus⟩
  | failed st =>
    rw [Group.account_failed]
    refine ⟨by show r.entryCount - 1 + r.written + (r.failed + 1) ≤ 32; omega, htag, habandoned, ?_, fun f hf => ?_⟩
    · by_cases hnone : r.first = none <;> simp [hnone]
    · by_cases hnone : r.first = none
      · obtain rfl : (tag, st) = f := by simpa [hnone] using hf
        exact ho
      · exact hstatus f (by simpa [hnone] using hf)

/-- A staged completion that is not its group's last (R110, R112). -/
theorem Group.Agrees.account {r : Group} {older younger : List Entry} {e : Entry} (h : r.Agrees (older ++ e :: younger))
    (hs : r.state = .committing) (tag : Byte) {o : Ending} (ho : o.Sound) (hmore : (r.account tag o).entryCount ≠ 0) :
    (r.account tag o).Agrees (older ++ younger) := by
  have hcount : r.entryCount = (older ++ younger).length + 1 := by
    rw [h.count]
    simp [Nat.add_assoc]
  have hstate := (r.account_state tag o).trans hs
  refine ⟨Group.account_recordOk h.record hs (by omega) tag ho, ?_, ?_, fun x hx => ?_⟩
  · rw [Group.account_entryCount, hcount, Nat.add_sub_cancel]
  · exact ⟨fun hz => absurd hz hmore, fun hempty => nomatch hstate.symm.trans hempty⟩
  · rw [Group.account_state]
    refine h.parked_iff x ?_
    rcases List.mem_append.mp hx with hx | hx
    · exact List.mem_append_left _ hx
    · exact List.mem_append_right _ (List.mem_cons_of_mem _ hx)

/-- The last staged completion leaves its group no entry (R112). -/
theorem Group.Agrees.account_last {r : Group} {older younger : List Entry} {e : Entry}
    (h : r.Agrees (older ++ e :: younger)) {tag : Byte} {o : Ending} (hlast : (r.account tag o).entryCount = 0) :
    older ++ younger = [] := by
  rw [Group.account_entryCount, h.count] at hlast
  refine List.eq_nil_of_length_eq_zero ?_
  simp only [List.length_append, List.length_cons] at hlast ⊢
  omega

/-! ### The number of groups in COMMITTING (R150) -/

theorem mem_groupNumbers : ∀ g : BitVec 3, g ∈ groupNumbers := by decide

theorem groupNumbers_nodup : groupNumbers.Nodup := by decide

/-- A property of groups that changes at `g` alone changes the count by what it changes at `g`. -/
theorem countP_groupNumbers_of_ne {p q : BitVec 3 → Bool} {g : BitVec 3} (h : ∀ x, x ≠ g → q x = p x) :
    groupNumbers.countP q + (if p g then 1 else 0) = groupNumbers.countP p + (if q g then 1 else 0) := by
  have split : ∀ f : BitVec 3 → Bool,
      groupNumbers.countP f = (groupNumbers.erase g).countP f + if f g then 1 else 0 := fun f => by
    rw [(List.perm_cons_erase (mem_groupNumbers g)).countP_eq f, List.countP_cons]
  have rest : (groupNumbers.erase g).countP q = (groupNumbers.erase g).countP p :=
    List.countP_congr fun x hx => by rw [h x (groupNumbers_nodup.mem_erase_iff.mp hx).1]
  rw [split p, split q, rest]
  omega

/-- Setting a record changes the number of COMMITTING groups by that record alone. -/
theorem State.committingCount_of_group {s t : State} {g : BitVec 3} {r : Group}
    (h : ∀ x, t.group x = if g = x then r else s.group x) :
    t.committingCount + (if (s.group g).state = .committing then 1 else 0)
      = s.committingCount + (if r.state = .committing then 1 else 0) := by
  have := countP_groupNumbers_of_ne (p := fun x => (s.group x).state == .committing)
    (q := fun x => (t.group x).state == .committing) (g := g) fun x hx => by simp only [h, if_neg hx.symm]
  simpa only [State.committingCount, h, if_true, beq_iff_eq] using this

theorem State.committingCount_congr {s t : State} (h : ∀ g, t.group g = s.group g) : t.committingCount = s.committingCount := by
  simp only [State.committingCount, h]

theorem State.committingCount_cleared {s : State} (h : ∀ g, s.group g = Group.cleared) : s.committingCount = 0 := by
  simp only [State.committingCount, h]
  rfl

/-! ### The laws of accepted work in two parts -/

/-- R81, R82, R120, R124: the operation in flight and the one ISSUED entry. -/
structure State.FlightLaws (s : State) : Prop where
  issued : s.journal.countP Entry.isIssued = s.executor.issuedCount
  reset_empty : s.executor = .reset → s.journal = []
  copied : ∀ op, s.executor.inFlight = some op → ∀ e ∈ s.journal, e.isIssued = true → op.Copies e

/-- R74, R100, R101, R149, R150: the groups, the reservations and the room. -/
structure State.LedgerLaws (s : State) : Prop where
  records : ∀ g, (s.group g).Agrees (entriesOf g s.journal)
  parked : ∀ e ∈ s.journal, e.state = .parked → ∃ g, e.kind = .staged g
  reserved : s.replies.reservations = s.journal.countP Entry.isRead + s.committingCount
  journalRoom : s.journal.length ≤ 32
  replyRoom : s.replies.queue.length + s.replies.reservations ≤ 16

theorem State.groupLaw_iff {s : State} : s.groupLaw ↔ (∀ g, (s.group g).Agrees (entriesOf g s.journal))
    ∧ ∀ e ∈ s.journal, e.state = .parked → ∃ g, e.kind = .staged g := by
  constructor
  · rintro ⟨hrecords, hparked, hopened⟩
    refine ⟨fun g => ?_, fun e he hp => ?_⟩
    · obtain ⟨hrecord, hcount, hempty⟩ := hrecords g
      refine ⟨hrecord, hcount.trans List.countP_eq_length_filter, hempty, fun e he => ?_⟩
      obtain ⟨hmem, hkind⟩ := mem_entriesOf.mp he
      refine ⟨fun hp => ?_, hopened e hmem g hkind⟩
      obtain ⟨g', hkind', hstate⟩ := hparked e hmem hp
      obtain rfl := EntryKind.staged.inj (hkind.symm.trans hkind')
      exact hstate
    · obtain ⟨g, hkind, _⟩ := hparked e he hp
      exact ⟨g, hkind⟩
  · rintro ⟨hagrees, hstaged⟩
    refine ⟨fun g => ⟨(hagrees g).record, (hagrees g).count.trans List.countP_eq_length_filter.symm, (hagrees g).empty_iff⟩,
      fun e he hp => ?_, fun e he g hkind hstate => ?_⟩
    · obtain ⟨g, hkind⟩ := hstaged e he hp
      exact ⟨g, hkind, ((hagrees g).parked_iff e (mem_entriesOf.mpr ⟨he, hkind⟩)).mp hp⟩
    · exact ((hagrees g).parked_iff e (mem_entriesOf.mpr ⟨he, hkind⟩)).mpr hstate

theorem State.workLaws_iff {s : State} : s.workLaws ↔ s.FlightLaws ∧ s.LedgerLaws := by
  rw [State.workLaws, State.groupLaw_iff]
  constructor
  · rintro ⟨⟨hissued, hreset⟩, hcopied, ⟨hrecords, hparked⟩, hreserved, hjournal, hreply⟩
    exact ⟨⟨hissued, hreset, hcopied⟩, ⟨hrecords, hparked, hreserved, hjournal, hreply⟩⟩
  · rintro ⟨⟨hissued, hreset, hcopied⟩, ⟨hrecords, hparked, hreserved, hjournal, hreply⟩⟩
    exact ⟨⟨hissued, hreset⟩, hcopied, ⟨hrecords, hparked⟩, hreserved, hjournal, hreply⟩

/-- The operation in flight keeps its laws while its executor state and the ISSUED entries stay. -/
theorem State.FlightLaws.congr {s t : State} (h : s.FlightLaws) (hx : t.executor = s.executor)
    (hi : t.journal.filter Entry.isIssued = s.journal.filter Entry.isIssued)
    (hreset : s.executor = .reset → t.journal = []) : t.FlightLaws := by
  refine ⟨?_, hx ▸ hreset, fun op hop e he hissued => ?_⟩
  · rw [hx, ← h.issued, List.countP_eq_length_filter, List.countP_eq_length_filter, hi]
  · have hmem : e ∈ s.journal.filter Entry.isIssued := hi ▸ List.mem_filter.mpr ⟨he, hissued⟩
    exact h.copied op (hx ▸ hop) e (List.mem_of_mem_filter hmem) hissued

/-- One record is set and the journal changes for its group alone: every record still agrees with its entries. -/
theorem State.LedgerLaws.records_of_set {s t : State} (h : s.LedgerLaws) {g : BitVec 3} {r : Group} {j : List Entry}
    (hset : ∀ x, t.group x = if g = x then r else s.group x) (hr : r.Agrees (entriesOf g j))
    (hother : ∀ x, x ≠ g → entriesOf x j = entriesOf x s.journal) (x : BitVec 3) : (t.group x).Agrees (entriesOf x j) := by
  rw [hset]
  split
  · next heq => exact heq ▸ hr
  · next hne =>
    rw [hother x (Ne.symm hne)]
    exact h.records x

/-- The ledger looks at the journal, the group table, the reservations and the reply use alone. -/
theorem State.LedgerLaws.congr {s t : State} (h : s.LedgerLaws) (hj : t.journal = s.journal) (hg : t.groups = s.groups)
    (hr : t.replies.reservations = s.replies.reservations)
    (hroom : t.replies.queue.length + s.replies.reservations ≤ 16) : t.LedgerLaws := by
  have hgroup : ∀ g, t.group g = s.group g := State.group_congr s t hg
  refine ⟨fun g => ?_, hj ▸ h.parked, ?_, hj ▸ h.journalRoom, hr ▸ hroom⟩
  · rw [hgroup, hj]
    exact h.records g
  · rw [hr, hj, State.committingCount_congr hgroup]
    exact h.reserved

/-- What leaves the executor, the journal, the groups and the reservations, and queues no reply, keeps the laws. -/
theorem State.workLaws.congr {s t : State} (h : s.workLaws) (hx : t.executor = s.executor) (hj : t.journal = s.journal)
    (hg : t.groups = s.groups) (hr : t.replies.reservations = s.replies.reservations)
    (hq : t.replies.queue.length ≤ s.replies.queue.length) : t.workLaws := by
  obtain ⟨hflight, hledger⟩ := State.workLaws_iff.mp h
  have hroom := hledger.replyRoom
  exact State.workLaws_iff.mpr
    ⟨hflight.congr hx (hj ▸ rfl) (hj ▸ hflight.reset_empty), hledger.congr hj hg hr (by omega)⟩

/-- A node with no accepted work: nothing in flight, no entry, no open group, no reservation. -/
theorem State.workLaws_of_cleared {s : State} (hx : s.executor.inFlight = none) (hj : s.journal = [])
    (hg : ∀ g, s.group g = Group.cleared) (hr : s.replies.reservations = 0) (hq : s.replies.queue.length ≤ 16) :
    s.workLaws := by
  have hnone : s.executor.issuedCount = 0 := by
    cases hs : s.executor with
    | idle | reset => rfl
    | requesting op | transferring op => simp [hs, Executor.inFlight] at hx
  refine State.workLaws_iff.mpr ⟨⟨?_, fun _ => hj, fun op hop => nomatch hx.symm.trans hop⟩,
    ⟨fun g => ?_, ?_, ?_, ?_, by omega⟩⟩
  · rw [hnone, hj, List.countP_nil]
  · rw [hg, hj]
    exact .cleared
  · simp [hj]
  · rw [hr, hj, State.committingCount_cleared hg, List.countP_nil]
  · simp [hj]

end Sys2Proof.Machine
end

section
/-! PROOFS. Every happening keeps the laws of accepted work: issue, the end of an operation, resets, sweeps and taken work
(R82, R87, R94, R101, R103 to R112, R150). -/

set_option Elab.async false

namespace Sys2Proof.Machine

/-! ### Issue (R82, R124) -/

theorem countP_leave {α : Type} (p : α → Bool) (l l' : List α) (a : α) :
    (l ++ a :: l').countP p = (l ++ l').countP p + if p a then 1 else 0 := by
  rw [List.countP_append, List.countP_cons, List.countP_append]
  omega

theorem State.issueAt_flightLaws {s : State} (h : s.FlightLaws) {k : Nat} {e : Entry} (hx : s.executor = .idle)
    (he : s.journal[k]? = some e) : (s.issueAt k e).FlightLaws := by
  obtain ⟨younger, hj, hset⟩ := issue_splits he { e with state := .issued }
  have hnone : s.journal.countP Entry.isIssued = 0 := by
    rw [h.issued, hx]
    rfl
  refine ⟨?_, fun hreset => (nomatch hreset), fun op hop x hmem hissued => ?_⟩
  · have hrest : (s.journal.take k ++ younger).countP Entry.isIssued = 0 := by
      rw [hj, countP_leave] at hnone
      omega
    show (s.journal.set k _).countP Entry.isIssued = 1
    rw [hset, countP_leave, hrest]
    rfl
  · obtain rfl : e.operation = op := Option.some.inj hop
    rcases List.mem_or_eq_of_mem_set hmem with hmem | rfl
    · exact absurd hissued (List.countP_eq_zero.mp hnone x hmem)
    · exact ⟨rfl, rfl, rfl, rfl, rfl⟩

theorem State.issueAt_ledgerLaws {s : State} (h : s.LedgerLaws) {k : Nat} {e : Entry}
    (he : s.journal[k]? = some e) (hwaiting : e.state = .waiting) : (s.issueAt k e).LedgerLaws := by
  obtain ⟨younger, hj, hset⟩ := issue_splits he { e with state := .issued }
  refine ⟨fun g => ?_, fun x hmem hparked => ?_, ?_, ?_, h.replyRoom⟩
  · have hrecord := h.records g
    rw [hj] at hrecord
    show (s.group g).Agrees (entriesOf g (s.journal.set k _))
    rw [hset]
    by_cases hk : e.kind = .staged g
    · rw [entriesOf_append, entriesOf_cons_same hk] at hrecord
      rw [entriesOf_append, entriesOf_cons_same (e := { e with state := .issued }) hk]
      exact hrecord.replace ⟨nofun, fun hparked => (nomatch hwaiting.symm.trans hparked)⟩
    · rwa [entriesOf_leave_other (e := { e with state := .issued }) hk, ← entriesOf_leave_other hk]
  · rcases List.mem_or_eq_of_mem_set hmem with hmem | rfl
    · exact h.parked x hmem hparked
    · exact nomatch hparked
  · show s.replies.reservations = (s.journal.set k _).countP Entry.isRead + s.committingCount
    have hreserved := h.reserved
    rw [hj, countP_leave] at hreserved
    rw [hset, countP_leave]
    exact hreserved
  · show (s.journal.set k _).length ≤ 32
    rw [List.length_set]
    exact h.journalRoom

theorem State.issueAt_workLaws {s : State} (h : s.workLaws) {k : Nat} {e : Entry} (hx : s.executor = .idle)
    (he : s.journal[k]? = some e) (hready : readyAt s.journal k = true) : (s.issueAt k e).workLaws := by
  obtain ⟨hflight, hledger⟩ := State.workLaws_iff.mp h
  obtain ⟨e', he', hwaiting, _⟩ := readyAt_iff.mp hready
  obtain rfl : e = e' := Option.some.inj (he.symm.trans he')
  exact State.workLaws_iff.mpr
    ⟨State.issueAt_flightLaws hflight hx he, State.issueAt_ledgerLaws hledger he hwaiting⟩

/-! ### The end of an operation (R87 to R91, R110 to R112) -/

theorem Executor.issuedCount_of_inFlight {x : Executor} {op : Operation} (h : x.inFlight = some op) :
    x.issuedCount = 1 ∧ x ≠ .reset := by
  cases x with
  | idle | reset => nomatch h
  | requesting op | transferring op => exact ⟨rfl, nofun⟩

/-- While an operation is in flight the journal holds its ISSUED entry and no other (R82). -/
theorem State.FlightLaws.splits {s : State} (h : s.FlightLaws) {op : Operation} (hop : s.executor.inFlight = some op) :
    ∃ older e younger, s.journal = older ++ e :: younger ∧ e.isIssued = true
      ∧ ∀ x ∈ older ++ younger, x.isIssued = false := by
  have hone : s.journal.countP Entry.isIssued = 1 := by
    rw [h.issued, (Executor.issuedCount_of_inFlight hop).1]
  obtain ⟨e, hmem, hissued⟩ := List.countP_pos_iff.mp (hone ▸ Nat.one_pos)
  obtain ⟨older, younger, hj⟩ := List.append_of_mem hmem
  refine ⟨older, e, younger, hj, hissued, fun x hx => ?_⟩
  rw [hj, countP_leave, hissued, if_pos rfl, Nat.add_eq_right] at hone
  exact Bool.eq_false_iff.mpr (List.countP_eq_zero.mp hone x hx)

theorem State.FlightLaws.of_idle {s : State} (hx : s.executor = .idle) (hnone : ∀ e ∈ s.journal, e.isIssued = false) :
    s.FlightLaws := by
  refine ⟨?_, fun hreset => (nomatch hx.symm.trans hreset), fun op hop => ?_⟩
  · rw [hx]
    exact List.countP_eq_zero.mpr fun e he => Bool.eq_false_iff.mp (hnone e he)
  · rw [hx] at hop
    exact nomatch hop

/-- An entry leaves the journal: what is left to say of the groups, the reservations and the reply use. -/
theorem State.LedgerLaws.leave {s t : State} (h : s.LedgerLaws) {older younger : List Entry} {e : Entry}
    (hs : s.journal = older ++ e :: younger) (ht : t.journal = older ++ younger)
    (hrecords : ∀ g, (t.group g).Agrees (entriesOf g (older ++ younger)))
    (hreserved : t.replies.reservations = (older ++ younger).countP Entry.isRead + t.committingCount)
    (hroom : t.replies.queue.length + t.replies.reservations ≤ 16) : t.LedgerLaws := by
  have hsub : (older ++ younger).Sublist (older ++ e :: younger) :=
    (List.Sublist.refl older).append (List.sublist_cons_self e younger)
  rw [← ht] at hrecords hreserved hsub
  rw [← hs] at hsub
  exact ⟨hrecords, fun x hx => h.parked x (hsub.subset hx), hreserved, hsub.length_le.trans h.journalRoom, hroom⟩

section

variable {s t : State} {older younger : List Entry} {e : Entry} (h : s.LedgerLaws)
  (hs : s.journal = older ++ e :: younger) (ht : t.journal = older ++ younger) (hgroups : t.groups = s.groups)
  (hreplies : t.replies = s.replies)

include h hs hgroups in
/-- The entry that leaves changes nothing for a group that is not its own. -/
theorem State.LedgerLaws.leave_record {g : BitVec 3} (hk : e.kind ≠ .staged g) :
    (t.group g).Agrees (entriesOf g (older ++ younger)) := by
  rw [State.group_congr s t hgroups, ← entriesOf_leave_other hk, ← hs]
  exact h.records g

include h hs in
theorem State.LedgerLaws.reserved_split : s.replies.reservations =
    (older ++ younger).countP Entry.isRead + (if e.isRead then 1 else 0) + s.committingCount := by
  rw [h.reserved, hs, countP_leave]

include h hs ht hgroups hreplies

/-- A READ's reservation becomes its reply (R88, R89). -/
theorem State.convertReply_ledgerLaws (hk : e.kind = .read) (tag : Byte) (body : ReplyBody) :
    (t.convertReply tag body).LedgerLaws := by
  have hunstaged : ∀ g, e.kind ≠ .staged g := fun g hg => (nomatch hk.symm.trans hg)
  have hreserved := h.reserved_split hs
  have hread : e.isRead = true := beq_iff_eq.mpr hk
  have hcommitting : (t.convertReply tag body).committingCount = s.committingCount :=
    State.committingCount_congr (State.group_congr s _ hgroups)
  have hroom := h.replyRoom
  rw [hread, if_pos rfl] at hreserved
  refine h.leave hs ht (fun g => h.leave_record (t := t.convertReply tag body) hs hgroups (hunstaged g)) ?_ ?_
  · rw [hcommitting, State.convertReply_replies, hreplies]
    show s.replies.reservations - 1 = _
    omega
  · rw [State.convertReply_replies, hreplies]
    show (s.replies.queue ++ [_]).length + (s.replies.reservations - 1) ≤ 16
    rw [List.length_append, List.length_singleton]
    omega

/-- A posted write has no reservation: whatever it leaves behind, the replies stay (R90, R91). -/
theorem State.LedgerLaws.leave_posted (hk : e.kind = .posted) {u : State} (hj : u.journal = t.journal)
    (hg : u.groups = t.groups) (hq : u.replies.queue = t.replies.queue)
    (hr : u.replies.reservations = t.replies.reservations) : u.LedgerLaws := by
  have hreserved := h.reserved_split hs
  have hread : e.isRead = false := by simp [Entry.isRead, hk]
  have hcommitting : u.committingCount = s.committingCount :=
    State.committingCount_congr (State.group_congr s _ (hg.trans hgroups))
  rw [hread, if_neg Bool.false_ne_true, Nat.add_zero] at hreserved
  refine h.leave hs (hj.trans ht) (fun g => h.leave_record hs (hg.trans hgroups) (by simp [hk])) ?_ ?_
  · rw [hr, hreplies, hcommitting, hreserved]
  · rw [hq, hr, hreplies]
    exact h.replyRoom

/-- A staged write is counted by its COMMITTING group, and the last one's reservation becomes the COMMIT-DONE (R110 to R112). -/
theorem State.accountStaged_ledgerLaws {g : BitVec 3} (hk : e.kind = .staged g) (hunparked : e.state ≠ .parked)
    {o : Ending} (ho : o.Sound) : (t.accountStaged g e.tag o).LedgerLaws := by
  have hrecord := h.records g
  rw [hs, entriesOf_append, entriesOf_cons_same hk] at hrecord
  have hcommitting : (s.group g).state = .committing := hrecord.committing (by simp) hunparked
  have hreserved := h.reserved_split hs
  have hread : e.isRead = false := by simp [Entry.isRead, hk]
  rw [hread, if_neg Bool.false_ne_true, Nat.add_zero] at hreserved
  have hsame : t.group g = s.group g := State.group_congr s t hgroups g
  have hset : ∀ (r : Group) (x : BitVec 3), (t.setGroup g r).group x = if g = x then r else s.group x := fun r x => by
    rw [State.group_setGroup, State.group_congr s t hgroups]
  have hother : ∀ x, x ≠ g → entriesOf x (older ++ younger) = entriesOf x s.journal := fun x hx => by
    rw [hs, entriesOf_leave_other fun hkx => hx (EntryKind.staged.inj (hkx.symm.trans hk))]
  have hcount : ∀ r : Group, (t.setGroup g r).committingCount + 1
      = s.committingCount + if r.state = .committing then 1 else 0 := by
    intro r
    have := State.committingCount_of_group (hset r)
    rwa [if_pos hcommitting] at this
  have hroom := h.replyRoom
  by_cases hlast : ((s.group g).account e.tag o).entryCount = 0
  · rw [State.accountStaged_last (hsame ▸ (Group.account_state _ _ _).trans hcommitting) (hsame ▸ hlast)]
    have hempty : entriesOf g (older ++ younger) = [] := by
      rw [entriesOf_append]
      exact hrecord.account_last hlast
    have hcleared : (t.setGroup g Group.cleared).committingCount + 1 = s.committingCount := hcount _
    refine h.leave hs ht (h.records_of_set (hset _) (hempty ▸ .cleared) hother) ?_ ?_
    · rw [State.convertReply_replies, State.setGroup_replies, hreplies]
      show s.replies.reservations - 1 = _ + (t.setGroup g Group.cleared).committingCount
      omega
    · rw [State.convertReply_replies, State.setGroup_replies, hreplies]
      show (s.replies.queue ++ [_]).length + (s.replies.reservations - 1) ≤ 16
      rw [List.length_append, List.length_singleton]
      omega
  · rw [State.accountStaged_counted (.inr (hsame ▸ hlast)), hsame]
    refine h.leave hs ht (h.records_of_set (hset _) ?_ hother) ?_ (hreplies ▸ hroom)
    · rw [entriesOf_append]
      exact hrecord.account hcommitting e.tag ho hlast
    · have hstill := hcount ((s.group g).account e.tag o)
      rw [if_pos ((Group.account_state _ _ _).trans hcommitting)] at hstill
      rw [State.setGroup_replies, hreplies, hreserved]
      omega

theorem State.account_ledgerLaws (hunparked : e.state ≠ .parked) (op : Operation) {o : Ending} (ho : o.Sound) :
    (t.account e op o).LedgerLaws := by
  cases hk : e.kind with
  | read =>
    obtain ⟨hok, hfailed⟩ := t.account_read hk op
    cases o with
    | ok => exact hok ▸ State.convertReply_ledgerLaws h hs ht hgroups hreplies hk _ _
    | failed st => exact hfailed st ▸ State.convertReply_ledgerLaws h hs ht hgroups hreplies hk _ _
  | posted =>
    obtain ⟨hok, hfailed⟩ := t.account_posted hk op
    cases o with
    | ok =>
      rw [hok]
      exact h.leave_posted hs ht hgroups hreplies hk rfl rfl rfl rfl
    | failed st =>
      rw [hfailed st]
      exact h.leave_posted hs ht hgroups hreplies hk rfl rfl (by simp) (by simp)
  | staged g =>
    rw [State.account_staged hk]
    exact State.accountStaged_ledgerLaws h hs ht hgroups hreplies hk hunparked ho

end

theorem State.accountStaged_executor (s : State) (g : BitVec 3) (tag : Byte) (o : Ending) :
    (s.accountStaged g tag o).executor = s.executor := by
  unfold State.accountStaged
  simp only
  split <;> rfl

theorem State.account_executor (s : State) (e : Entry) (op : Operation) (o : Ending) :
    (s.account e op o).executor = s.executor := by
  cases hk : e.kind with
  | read => cases o <;> simp [State.account, hk]
  | posted => cases o <;> simp [State.account, hk]
  | staged g => rw [State.account_staged hk, State.accountStaged_executor]

theorem State.finish_workLaws {s : State} (h : s.workLaws) {op : Operation} (hop : s.executor.inFlight = some op)
    (op' : Operation) {o : Ending} (ho : o.Sound) : (s.finish op' o).workLaws := by
  obtain ⟨hflight, hledger⟩ := State.workLaws_iff.mp h
  obtain ⟨older, e, younger, hj, hissued, hnone⟩ := hflight.splits hop
  have hunparked : e.state ≠ .parked := fun hp => (nomatch (Entry.isIssued_iff.mp hissued).symm.trans hp)
  rw [State.finish_of_split op' o hj (fun x hx => hnone x (List.mem_append_left _ hx)) hissued]
  refine State.workLaws_iff.mpr ⟨.of_idle (State.account_executor _ _ _ _) ?_, ?_⟩
  · rw [State.account_journal]
    exact hnone
  · exact State.account_ledgerLaws (t := { s with journal := older ++ younger }.enter .idle) hledger hj rfl rfl rfl hunparked
      op' ho

/-- An edge while an operation is in flight keeps the laws (R126 to R129). -/
theorem State.Progresses.workLaws {s t : State} {op : Operation} (ht : s.Progresses op t) (h : s.workLaws)
    (hop : s.executor.inFlight = some op) : t.workLaws := by
  cases ht with
  | moves x op' inFlight copies =>
    obtain ⟨hflight, hledger⟩ := State.workLaws_iff.mp h
    obtain ⟨hone, hfree⟩ := Executor.issuedCount_of_inFlight inFlight
    refine State.workLaws_iff.mpr ⟨⟨?_, fun hreset => absurd hreset hfree, fun q hq e he hissued => ?_⟩,
      hledger.congr rfl rfl rfl hledger.replyRoom⟩
    · show s.journal.countP Entry.isIssued = x.issuedCount
      rw [hflight.issued, hone, (Executor.issuedCount_of_inFlight hop).1]
    · obtain rfl : op' = q := Option.some.inj (inFlight.symm.trans hq)
      exact copies e (hflight.copied op hop e he hissued)
  | ends op' o sound => exact State.finish_workLaws h hop op' sound

/-! ### Resets (R32, R34, R94, R134 to R136) -/

/-- A local reset makes one reply for each reservation (R94, R150). -/
theorem State.abandonedReplies_length (s : State) :
    s.abandonedReplies.length = s.journal.countP Entry.isRead + s.committingCount := by
  rw [State.abandonedReplies, List.length_append, abandonedReads_eq, State.abandonedDones_eq, List.length_map, List.length_map,
    ← List.countP_eq_length_filter, ← List.countP_eq_length_filter]
  rfl

theorem State.group_of_replicate {s : State} (h : s.groups = Vector.replicate 8 Group.cleared) (g : BitVec 3) :
    s.group g = Group.cleared := by
  simp [State.group, h]

/-- A local reset leaves no accepted work, whatever executor state follows (R134, R135). -/
theorem State.workLaws_of_localReset {s t : State} (h : s.workLaws) (hx : t.executor.inFlight = none) (hj : t.journal = [])
    (hg : t.groups = Vector.replicate 8 Group.cleared) (hr : t.replies = s.localResetSequence.replies) : t.workLaws := by
  obtain ⟨_, hledger⟩ := State.workLaws_iff.mp h
  have hlength := hledger.reserved.trans s.abandonedReplies_length.symm
  have hroom := hledger.replyRoom
  refine State.workLaws_of_cleared hx hj (State.group_of_replicate hg) ?_ ?_
  · rw [hr]
    simp [State.localResetSequence, hlength]
  · rw [hr, State.localResetSequence_queue, List.length_append]
    omega

theorem State.localResetSequence_workLaws {s : State} (h : s.workLaws) : s.localResetSequence.workLaws :=
  State.workLaws_of_localReset h rfl rfl rfl rfl

theorem State.localResetCommand_workLaws {s : State} (h : s.workLaws) : s.localResetCommand.workLaws := by
  unfold State.localResetCommand
  split
  · exact State.localResetSequence_workLaws h
  · exact State.workLaws_of_localReset h rfl rfl rfl rfl

theorem State.loopReset_workLaws (s : State) : s.loopReset.workLaws := by
  refine State.workLaws_of_cleared ?_ rfl (State.group_of_replicate rfl) rfl (Nat.zero_le _)
  show (executorFor s.lrstLow).inFlight = none
  cases s.lrstLow <;> rfl

theorem State.powerFail_workLaws {s : State} (h : s.workLaws) : s.powerFail.workLaws := by
  unfold State.powerFail
  split
  · exact State.workLaws.congr (s := s.powerOn true false) (State.loopReset_workLaws _) rfl rfl rfl rfl (Nat.le_refl _)
  · exact h

/-- A rise of LRST# frees a journal that the reset has emptied (R136). -/
theorem State.lrstRise_workLaws {s : State} (h : s.workLaws) (hheld : s.localHeld = true) :
    State.workLaws ({ s with lrstLow := false }.enter .idle) := by
  obtain ⟨hflight, hledger⟩ := State.workLaws_iff.mp h
  have hj : s.journal = [] := hflight.reset_empty (State.localHeld_iff.mp hheld)
  refine State.workLaws_iff.mpr ⟨.of_idle rfl fun e he => ?_, hledger.congr rfl rfl rfl hledger.replyRoom⟩
  exact absurd (hj ▸ he : e ∈ []) List.not_mem_nil

/-! ### Replies and sweeps (R150, R152 to R156) -/

theorem State.queueReply_workLaws {s : State} (h : s.workLaws)
    (hroom : s.replies.queue.length + s.replies.reservations < 16) (tag : Byte) (body : ReplyBody) :
    (s.queueReply tag body).workLaws := by
  obtain ⟨hflight, hledger⟩ := State.workLaws_iff.mp h
  refine State.workLaws_iff.mpr ⟨hflight.congr rfl rfl hflight.reset_empty, hledger.congr rfl rfl rfl ?_⟩
  rw [State.queueReply_replies, List.length_append, List.length_singleton]
  omega

theorem ReplyUnit.SameItems.queue_length {r r' : ReplyUnit} (h : r.SameItems r') : r'.queue.length = r.queue.length := by
  obtain ⟨hqueue, _⟩ := h
  simpa using congrArg List.length hqueue

/-- A sweep releases replies, queues none and leaves the reservations (R152 to R156). -/
theorem ReplyUnit.sweep_keeps (r : ReplyUnit) (node : BitVec 5) (field : Word) (slots : List Byte) :
    (r.sweep node field slots).2.1.reservations = r.reservations
    ∧ (r.sweep node field slots).2.1.queue.length ≤ r.queue.length := by
  have hrelease : (r.release (confirmNumber field)).queue.length ≤ r.queue.length := List.length_filter_le _ _
  have filled : ∀ ready : ReplyUnit, ready.reservations = r.reservations → ready.queue.length ≤ r.queue.length →
      (fillSlots node (sweepNumber field) (slots.length / 36) slots ready).2.1.reservations = r.reservations
      ∧ (fillSlots node (sweepNumber field) (slots.length / 36) slots ready).2.1.queue.length ≤ r.queue.length := by
    intro ready hreserved hqueue
    have hsame := fillSlots_sameItems node (sweepNumber field) (slots.length / 36) slots ready
    obtain ⟨_, _, hreservations⟩ := id hsame
    exact ⟨hreservations.trans hreserved, hsame.queue_length.trans_le hqueue⟩
  unfold ReplyUnit.sweep
  refine filled _ ?_ ?_
  · split <;> rfl
  · split
    · simpa [ReplyUnit.resend] using hrelease
    · exact hrelease

theorem State.takeSweep_workLaws {s : State} (h : s.workLaws) (field : Word) (slots : List Byte) :
    (s.takeSweep field slots).workLaws := by
  obtain ⟨hreserved, hqueue⟩ := s.replies.sweep_keeps (nodeNumber s.loop.loopState) field slots
  exact h.congr rfl rfl rfl hreserved hqueue

/-! ### Entries that join the journal (R50 to R52, R103) -/

theorem State.FlightLaws.join {s t : State} (h : s.FlightLaws) {e : Entry} (hx : t.executor = s.executor)
    (hj : t.journal = s.journal ++ [e]) (hfree : s.executor ≠ .reset) (he : e.state ≠ .issued) : t.FlightLaws := by
  refine h.congr hx ?_ fun hreset => absurd hreset hfree
  rw [hj, List.filter_append, List.filter_cons_of_neg (mt Entry.isIssued_iff.mp he), List.filter_nil, List.append_nil]

theorem State.LedgerLaws.join {s t : State} (h : s.LedgerLaws) {e : Entry} (hj : t.journal = s.journal ++ [e])
    (hfits : s.journal.length < 32) (hparked : e.state = .parked → ∃ g, e.kind = .staged g)
    (hrecords : ∀ g, (t.group g).Agrees (entriesOf g (s.journal ++ [e])))
    (hreserved : t.replies.reservations + s.committingCount
      = s.replies.reservations + (if e.isRead then 1 else 0) + t.committingCount)
    (hroom : t.replies.queue.length + t.replies.reservations ≤ 16) : t.LedgerLaws := by
  refine ⟨fun g => ?_, fun x hx hp => ?_, ?_, ?_, hroom⟩
  · rw [hj]
    exact hrecords g
  · rw [hj, List.mem_append, List.mem_singleton] at hx
    rcases hx with hx | rfl
    · exact h.parked x hx hp
    · exact hparked hp
  · have := h.reserved
    rw [hj, List.countP_append, List.countP_singleton]
    omega
  · rw [hj, List.length_append, List.length_singleton]
    omega

/-- A READ or a posted write joins: no group gains an entry (R50, R51). -/
theorem State.LedgerLaws.join_unstaged {s t : State} (h : s.LedgerLaws) {e : Entry} (hj : t.journal = s.journal ++ [e])
    (hg : t.groups = s.groups) (hfits : s.journal.length < 32) (hwaiting : e.state = .waiting)
    (hunstaged : ∀ g, e.kind ≠ .staged g)
    (hreserved : t.replies.reservations = s.replies.reservations + if e.isRead then 1 else 0)
    (hroom : t.replies.queue.length + t.replies.reservations ≤ 16) : t.LedgerLaws := by
  have hgroup : ∀ g, t.group g = s.group g := State.group_congr s t hg
  refine h.join hj hfits (fun hp => (nomatch hwaiting.symm.trans hp)) (fun g => ?_) ?_ hroom
  · rw [hgroup, entriesOf_join_other (hunstaged g)]
    exact h.records g
  · rw [hreserved, State.committingCount_congr hgroup]

theorem State.takeRead_workLaws {s : State} (h : s.workLaws) (hfree : s.executor ≠ .reset) (hfits : s.journal.length < 32)
    (hroom : s.replies.queue.length + s.replies.reservations < 16) (tag : Byte) (a : Word) (n : Nat) :
    (s.takeRead tag a n).workLaws := by
  obtain ⟨hflight, hledger⟩ := State.workLaws_iff.mp h
  exact State.workLaws_iff.mpr ⟨hflight.join rfl rfl hfree nofun,
    hledger.join_unstaged rfl rfl hfits rfl (fun _ => nofun) rfl hroom⟩

theorem State.takeWrite_workLaws {s : State} (h : s.workLaws) (hfree : s.executor ≠ .reset) (hfits : s.journal.length < 32)
    (tag : Byte) (a : Word) (data : List Byte) : (s.takeWrite tag a data).workLaws := by
  obtain ⟨hflight, hledger⟩ := State.workLaws_iff.mp h
  exact State.workLaws_iff.mpr ⟨hflight.join rfl rfl hfree nofun,
    hledger.join_unstaged rfl rfl hfits rfl (fun _ => nofun) rfl hledger.replyRoom⟩

theorem Group.addEntry_state {r : Group} (h : r.state ≠ .committing) : r.addEntry.state = .opened := by
  cases hs : r.state with
  | empty => rw [Group.addEntry_empty hs]
  | opened => rw [Group.addEntry_opened hs, hs]
  | committing => exact absurd hs h

/-- A STAGE joins its group PARKED (R52, R103). -/
theorem State.takeStage_workLaws {s : State} (h : s.workLaws) (hfree : s.executor ≠ .reset) (hfits : s.journal.length < 32)
    {g : BitVec 3} (hgroup : (s.group g).state ≠ .committing) (tag : Byte) (a : Word) (data : List Byte) :
    (s.takeStage tag g a data).workLaws := by
  obtain ⟨hflight, hledger⟩ := State.workLaws_iff.mp h
  have hset : ∀ x, (s.takeStage tag g a data).group x = if g = x then (s.group g).addEntry else s.group x :=
    fun x => State.group_setGroup _ g x _
  have hcount := State.committingCount_of_group hset
  rw [if_neg hgroup, if_neg (by rw [Group.addEntry_state hgroup]; nofun), Nat.add_zero, Nat.add_zero] at hcount
  refine State.workLaws_iff.mpr ⟨hflight.join rfl rfl hfree nofun, hledger.join rfl hfits (fun _ => ⟨g, rfl⟩)
    (hledger.records_of_set hset ?_ fun x hx => ?_) (by rw [hcount]; rfl) hledger.replyRoom⟩
  · rw [entriesOf_append, entriesOf_cons_same rfl]
    exact (hledger.records g).addEntry hgroup ((List.length_filter_le _ _).trans_lt hfits) rfl
  · exact entriesOf_join_other (fun hkx => hx (EntryKind.staged.inj hkx).symm) _

/-! ### COMMIT and DISCARD (R105, R106, R108) -/

/-- The COMMIT of an OPEN group wakes its entries and takes a reservation (R105). -/
theorem State.commitGroup_opened_workLaws {s : State} (h : s.workLaws)
    (hroom : s.replies.queue.length + s.replies.reservations < 16) {g : BitVec 3} (hopened : (s.group g).state = .opened)
    (tag : Byte) {t : State} (hx : t.executor = s.executor) (hj : t.journal = s.journal.map (Entry.wake g))
    (hset : ∀ x, t.group x = if g = x then { s.group g with state := .committing, commitTag := some tag } else s.group x)
    (hr : t.replies = { s.replies with reservations := s.replies.reservations + 1 }) : t.workLaws := by
  obtain ⟨hflight, hledger⟩ := State.workLaws_iff.mp h
  have hcount := State.committingCount_of_group hset
  rw [if_neg (by rw [hopened]; nofun), if_pos rfl, Nat.add_zero] at hcount
  refine State.workLaws_iff.mpr ⟨hflight.congr hx ?_ fun hreset => ?_,
    ⟨hledger.records_of_set hset ?_ fun x hne => ?_, fun x hmem hp => ?_, ?_, ?_, hr ▸ hroom⟩⟩
  · rw [hj, wake_issuedEntries]
  · rw [hj, hflight.reset_empty hreset, List.map_nil]
  · rw [hj, entriesOf_wake]
    exact (hledger.records g).commit hopened (fun e he => (mem_entriesOf.mp he).2) tag
  · rw [hj, entriesOf_wake_other hne]
  · rw [hj] at hmem
    obtain ⟨e, he, rfl⟩ := List.mem_map.mp hmem
    have hparked : e.state = .parked := by
      by_contra hne
      rw [Entry.wake_unparked hne] at hp
      exact hne hp
    exact (Entry.wake_kind g e).symm ▸ hledger.parked e he hparked
  · rw [hr, hj, wake_countP_isRead, hcount, ← Nat.add_assoc, ← hledger.reserved]
  · rw [hj, List.length_map]
    exact hledger.journalRoom

theorem State.commitGroup_workLaws {s : State} (h : s.workLaws)
    (hroom : s.replies.queue.length + s.replies.reservations < 16) (g : BitVec 3) (tag : Byte) :
    (s.commitGroup g tag).workLaws := by
  unfold State.commitGroup
  split
  · next hopened =>
    exact State.commitGroup_opened_workLaws h hroom hopened tag rfl rfl (fun x => State.group_setGroup _ g x _) rfl
  · exact State.queueReply_workLaws h hroom _ _

/-- An OPEN group's entries leave the journal with its record (R108): they are PARKED, so none of them is in flight. -/
theorem State.clearGroup_workLaws {s : State} (h : s.workLaws) {g : BitVec 3} (hopened : (s.group g).state = .opened) :
    State.workLaws ({ s with journal := s.journal.filter (fun e => !e.ofGroup g) }.setGroup g Group.cleared) := by
  obtain ⟨hflight, hledger⟩ := State.workLaws_iff.mp h
  have hset := fun x => State.group_setGroup { s with journal := s.journal.filter (fun e => !e.ofGroup g) } g x Group.cleared
  have hcount := State.committingCount_of_group (s := s) hset
  rw [if_neg (by rw [hopened]; nofun), if_neg nofun, Nat.add_zero, Nat.add_zero] at hcount
  refine State.workLaws_iff.mpr ⟨hflight.congr rfl (discard_issuedEntries fun e he hissued => ?_) fun hreset => ?_,
    ⟨hledger.records_of_set hset ?_ fun x hne => ?_, fun x hx => hledger.parked x (List.mem_of_mem_filter hx), ?_, ?_,
      hledger.replyRoom⟩⟩
  · exact nomatch hissued.symm.trans (((hledger.records g).parked_iff e he).mpr hopened)
  · rw [State.setGroup_journal, hflight.reset_empty hreset, List.filter_nil]
  · rw [State.setGroup_journal, entriesOf_discard, if_pos rfl]
    exact .cleared
  · rw [State.setGroup_journal, entriesOf_discard, if_neg hne]
  · rw [State.setGroup_journal, State.setGroup_replies, discard_countP_isRead, hcount, ← hledger.reserved]
  · exact (List.length_filter_le _ _).trans hledger.journalRoom

theorem State.discardGroup_workLaws {s : State} (h : s.workLaws)
    (hroom : s.replies.queue.length + s.replies.reservations < 16) (g : BitVec 3) (tag : Byte) :
    (s.discardGroup g tag).workLaws := by
  unfold State.discardGroup
  split
  · next hopened => exact State.queueReply_workLaws (State.clearGroup_workLaws h hopened) hroom _ _
  · exact State.queueReply_workLaws h hroom _ _

/-! ### Taken work (R43, R46, R47, R50 to R56) -/

theorem State.applyWord_workLaws {s : State} (h : s.workLaws) (a : Nat) (x : Word) : (s.applyWord a x).workLaws := by
  have hsame : ∀ {t : State}, t.executor = s.executor → t.journal = s.journal → t.groups = s.groups →
      t.replies = s.replies → t.workLaws := fun hx hj hg hr => h.congr hx hj hg (hr ▸ rfl) (hr ▸ Nat.le_refl _)
  unfold State.applyWord
  split
  · exact hsame rfl rfl rfl rfl
  · split
    · exact hsame rfl rfl rfl rfl
    · split
      · unfold State.command
        split
        · exact hsame rfl rfl rfl rfl
        · exact hsame rfl rfl rfl rfl
        · exact hsame rfl rfl rfl rfl
        · exact State.localResetCommand_workLaws h
        · exact h
      · exact hsame rfl rfl rfl rfl

theorem State.applyWords_workLaws {s : State} (h : s.workLaws) (words : List (Nat × Word)) :
    (s.applyWords words).workLaws := by
  induction words generalizing s with
  | nil => exact h
  | cons w words ih => exact ih (State.applyWord_workLaws h w.1 w.2)

/-- What the space check leaves to taken work (R47). -/
theorem State.room_of_spaceFails {s : State} {w : Work} (h : s.spaceFails w = false) :
    (w.needsJournal = true → s.journal.length < 32)
    ∧ (w.needsReply = true → s.replies.queue.length + s.replies.reservations < 16) := by
  have hroom := mt State.spaceFails_iff.mpr (Bool.eq_false_iff.mp h)
  rw [not_or] at hroom
  obtain ⟨hjournal, hreply⟩ := hroom
  exact ⟨fun hw => Nat.lt_of_not_le fun hn => hjournal ⟨hw, hn⟩, fun hw => Nat.lt_of_not_le fun hn => hreply ⟨hw, hn⟩⟩

/-- What the local check leaves to taken work (R43). -/
theorem State.free_of_taken {s : State} {w : Work} (h : (w.needsLocal && s.localHeld) = false) (hw : w.needsLocal = true) :
    s.executor ≠ .reset := by
  rw [hw, Bool.true_and] at h
  exact mt State.localHeld_iff.mpr (Bool.eq_false_iff.mp h)

/-- What the owning block does with taken work keeps the laws. -/
theorem State.handOn_workLaws {s : State} {p : Parcel} (hj : s.judge p = .taken) (h : s.workLaws) :
    (s.handOn p.tag p.work).workLaws := by
  obtain ⟨_, hlocal, _, _, hgroup, hspace, _⟩ := State.judge_taken.mp hj
  obtain ⟨hjournal, hreply⟩ := State.room_of_spaceFails hspace
  have hfree := State.free_of_taken hlocal
  cases hw : p.work with
  | memoryRead a n =>
    rw [hw] at hjournal hreply hfree
    exact State.takeRead_workLaws h (hfree rfl) (hjournal rfl) (hreply rfl) _ _ _
  | memoryWrite a data =>
    rw [hw] at hjournal hfree
    exact State.takeWrite_workLaws h (hfree rfl) (hjournal rfl) _ _ _
  | stage g a data =>
    rw [hw] at hjournal hfree hgroup
    exact State.takeStage_workLaws h (hfree rfl) (hjournal rfl) (by simpa [State.groupFails, Work.groupOf] using hgroup) _ _ _
  | commit g =>
    rw [hw] at hreply
    exact State.commitGroup_workLaws h (hreply rfl) g _
  | discard g =>
    rw [hw] at hreply
    exact State.discardGroup_workLaws h (hreply rfl) g _
  | sweep field slots => exact State.takeSweep_workLaws h field slots
  | step c => exact h.congr rfl rfl rfl rfl (Nat.le_refl _)
  | number v => exact h.congr rfl rfl rfl rfl (Nat.le_refl _)
  | loopReset => exact s.loopReset_workLaws
  | controlRead a n =>
    rw [hw] at hreply
    exact State.queueReply_workLaws h (hreply rfl) _ _
  | controlWrite words => exact State.applyWords_workLaws h words

/-! ### Every happening -/

theorem workLaws_of_happening {s t : State} (h : s.workLaws) (ht : Happening s t) : t.workLaws := by
  have heard : ∀ gap p, (s.heard gap p).workLaws := fun _ _ => h.congr rfl rfl rfl rfl (Nat.le_refl _)
  cases ht with
  | stays => exact h
  | takesBroadcast gap p _ _ _ taken =>
    exact (State.handOn_workLaws taken (heard gap p)).congr rfl rfl rfl rfl (Nat.le_refl _)
  | takesUnicast gap p _ _ _ taken =>
    exact (State.handOn_workLaws taken (heard gap p)).congr rfl rfl rfl rfl (Nat.le_refl _)
  | powersOn => exact State.loopReset_workLaws _
  | powerFails => exact State.powerFail_workLaws h
  | issues k e _ idle _ oldest entry =>
    obtain ⟨_, hready, _⟩ := oldestReady_some oldest
    exact State.issueAt_workLaws h idle entry hready
  | requestEdge op lgnt _ executor => exact (s.requestEdge_progresses op lgnt).workLaws h (by rw [executor]; rfl)
  | beatEdge op lgnt lerr lwait ld _ executor =>
    exact (s.beatEdge_progresses op lgnt lerr lwait ld).workLaws h (by rw [executor]; rfl)
  | lrstFalls => exact (State.localResetSequence_workLaws h).congr rfl rfl rfl rfl (Nat.le_refl _)
  | lrstRises _ _ held => exact State.lrstRise_workLaws h held
  | _ => exact h.congr rfl rfl rfl rfl (Nat.le_refl _)

end Sys2Proof.Machine

namespace Sys2Proof.Proofs

open Sys2Proof.Machine

/-- Settles O52, by cases on what a step does. -/
theorem everyStepKeepsTheWorkLaws : Obligations.EveryStepKeepsTheWorkLaws := by
  intro s t h hstep
  have hqueue : State.workLaws { s with pending := s.pending.tail } := h.congr rfl rfl rfl rfl (Nat.le_refl _)
  exact workLaws_of_happening hqueue (step_happening hstep)

end Sys2Proof.Proofs
end

section
/-! PROOFS. COMMIT and DISCARD taken, unicast or broadcast: whose parcel it is, the checks it passes, its answer, and what its
group, its entries and the reply unit become (R36, R37, R46, R47, R57, R105 to R109). -/

set_option Elab.async false

namespace Sys2Proof.Machine

/-! ### A COMMIT, DISCARD or STEP that reaches the node (R36, R37) -/

/-- An envelope reaches the node by its number, or as a broadcast to a NUMBERED node. -/
theorem State.reached_iff {s : State} {e : Envelope} : s.reached e = true ↔
    s.addressed e = true ∨ e.dest = 31#5 ∧ ∃ n, s.loop.loopState = .numbered n := by
  cases hl : s.loop.loopState <;> simp [State.reached, State.isNumbered, hl]

theorem State.dest_ne_zero_of_reached {s : State} {e : Envelope} (h : s.reached e = true) : e.dest ≠ 0#5 := by
  rcases State.reached_iff.mp h with ha | ⟨hall, _⟩
  · obtain ⟨_, hzero, _, _⟩ := State.addressed_iff.mp ha
    exact hzero
  · simp [hall]

theorem State.owns_of_reached {s : State} {e : Envelope} (h : s.reached e = true) {kind : BitVec 4}
    (hk : kind ∈ [4#4, 5#4, 7#4]) (control : Bool) (a : Word) (payload : List Byte) :
    s.owns (e.parcel kind control a payload) = true := by
  rcases State.reached_iff.mp h with ha | ⟨hall, hnumbered⟩
  · exact State.owns_of_addressed ha kind control a payload
  · have hkind : kind ∈ [4#4, 5#4, 6#4, 7#4] := List.Sublist.subset (by decide) hk
    exact (State.owns_broadcast hall).mpr (.inr ⟨hnumbered, hkind⟩)

/-- Taken work that rewrites no field and numbers no node is done and acknowledged (R22, R57). -/
theorem State.intake_acknowledged {s : State} {p : Parcel} (ho : s.owns p = true) (hj : s.judge p = .taken)
    (hn : p.work.unnumbers = false) (hr : s.rewritten p = p) :
    s.intake p = (s.handOn p.tag p.work).acknowledge p := by
  rw [State.intake_taken ho hj, hn, hr]
  rfl

/-- COMMIT, DISCARD and STEP leave with the fields they came with, MARK apart, and number no node (R5, R27). -/
theorem State.rewritten_of_kind {p : Parcel} (hk : p.kind ∈ [4#4, 5#4, 7#4]) (s : State) :
    p.work.unnumbers = false ∧ s.rewritten p = p := by
  simp only [List.mem_cons, List.not_mem_nil, or_false] at hk
  rcases hk with hk | hk | hk <;> simp [State.rewritten, Parcel.work, hk, Work.unnumbers]

/-- An own COMMIT, DISCARD or STEP that passes every check has its work done and is acknowledged (R22, R57). -/
theorem exec_acknowledged {c : Instr} {gap : Nat} {p : Parcel} {s : State} (hc : c.arrival = some (gap, p))
    (hk : p.kind ∈ [4#4, 5#4, 7#4]) (hd : p.damaged = false) (hl : p.payload.length ≤ 255) (hh : s.hears gap = true)
    (ho : s.owns p = true) (hj : s.judge p = .taken) :
    exec c s = .next (((s.heard gap p).handOn p.tag p.work).acknowledge p) := by
  obtain ⟨hnumber, hfields⟩ := State.rewritten_of_kind hk (s.heard gap p)
  rw [exec_arrival hc, State.arrive_heard hh hl hd,
    State.intake_acknowledged (by rwa [State.heard_owns]) (by rwa [State.heard_judge]) hnumber hfields]

/-! ### The checks of a COMMIT and a DISCARD (R43, R46, R47) -/

theorem formOk_commitDiscard {e : Envelope} (hd : e.dest ≠ 0#5) {kind : BitVec 4} (hk : kind = 4#4 ∨ kind = 5#4)
    (a : Word) : (e.parcel kind false a []).formOk = true := by
  refine formOk_of ((Parcel.headerOk_commitDiscard hk).mpr ⟨rfl, hd, rfl, rfl⟩) ?_
  rcases hk with rfl | rfl <;> rfl

/-- A COMMIT or DISCARD whose group is not COMMITTING and for which there is reply room passes group and space. -/
theorem State.groupWork_passes {s : State} {w : Work} {g : BitVec 3} (hw : w = .commit g ∨ w = .discard g)
    (hg : (s.group g).state ≠ .committing) (hroom : s.replies.queue.length + s.replies.reservations < 16) :
    s.groupFails w = false ∧ s.spaceFails w = false := by
  rw [← Bool.not_eq_true, ← Bool.not_eq_true, State.spaceFails_iff]
  rcases hw with rfl | rfl <;>
    exact ⟨by simpa [State.groupFails, Work.groupOf] using hg,
      by simpa [Work.needsJournal, Work.needsReply, Work.access] using hroom⟩

theorem State.judge_commit_taken {s : State} {e : Envelope} (hd : e.dest ≠ 0#5) (a : Word) (hx : s.executor ≠ .reset)
    (hg : (s.group e.group).state ≠ .committing) (hroom : s.replies.queue.length + s.replies.reservations < 16) :
    s.judge (e.parcel 4#4 false a []) = .taken := by
  obtain ⟨hgroup, hspace⟩ := State.groupWork_passes (.inl rfl) hg hroom
  rw [State.judge_taken, work_commit]
  exact ⟨formOk_commitDiscard hd (.inl rfl) a, by simp [State.localHeld_false hx], rfl, rfl, hgroup, hspace, rfl⟩

/-- A DISCARD asks nothing of the local side. -/
theorem State.judge_discard_taken {s : State} {e : Envelope} (hd : e.dest ≠ 0#5) (a : Word)
    (hg : (s.group e.group).state ≠ .committing) (hroom : s.replies.queue.length + s.replies.reservations < 16) :
    s.judge (e.parcel 5#4 false a []) = .taken := by
  obtain ⟨hgroup, hspace⟩ := State.groupWork_passes (.inr rfl) hg hroom
  rw [State.judge_taken, work_discard]
  exact ⟨formOk_commitDiscard hd (.inr rfl) a, rfl, rfl, rfl, hgroup, hspace, rfl⟩

/-! ### What they do to the group (R105, R106, R108, R109) -/

/-- Waking, by KIND and STATE (R105). -/
theorem Entry.wake_eq (g : BitVec 3) (e : Entry) :
    e.wake g = if e.kind = .staged g ∧ e.state = .parked then { e with state := .waiting } else e := by
  simp [Entry.wake, Entry.ofGroup]

theorem State.commitGroup_opened {s : State} {g : BitVec 3} (h : (s.group g).state = .opened) (tag : Byte) :
    s.commitGroup g tag =
      { s with
        journal := s.journal.map (fun x =>
          if x.kind = .staged g ∧ x.state = .parked then { x with state := .waiting } else x)
        groups := s.groups.set g.toNat { s.group g with state := .committing, commitTag := some tag } g.isLt
        replies := { s.replies with reservations := s.replies.reservations + 1 } } := by
  rw [State.commitGroup, if_pos h, funext (Entry.wake_eq g)]
  rfl

theorem State.commitGroup_empty {s : State} {g : BitVec 3} (h : (s.group g).state = .empty) (tag : Byte) :
    s.commitGroup g tag = s.queueReply tag (.commitDone .ok 0 0 0 none) := by
  rw [State.commitGroup, if_neg (by simp [h])]

theorem State.discardGroup_opened {s : State} {g : BitVec 3} (h : (s.group g).state = .opened) (tag : Byte) :
    s.discardGroup g tag =
      { s with
        journal := s.journal.filter (fun x => x.kind ≠ .staged g)
        groups := s.groups.set g.toNat Group.cleared g.isLt
        replies := { s.replies with
          queue := s.replies.queue ++ [⟨tag, .discardDone (s.group g).entryCount, none⟩] } } := by
  have hleft : s.journal.filter (fun x => !x.ofGroup g) = s.journal.filter (fun x => x.kind ≠ .staged g) :=
    List.filter_congr fun x _ => by rw [Bool.eq_iff_iff]; simp [← Entry.ofGroup_iff]
  rw [State.discardGroup, if_pos h, hleft]
  rfl

theorem State.discardGroup_empty {s : State} {g : BitVec 3} (h : (s.group g).state = .empty) (tag : Byte) :
    s.discardGroup g tag = s.queueReply tag (.discardDone 0) := by
  rw [State.discardGroup, if_neg (by simp [h])]

end Sys2Proof.Machine

namespace Sys2Proof.Proofs

open Sys2Proof.Machine

/-- Settles O26: the COMMIT passes every check, and its group being OPEN or EMPTY decides what it does. -/
theorem commitIsTaken : Obligations.CommitIsTaken := by
  rintro e a s p rfl hh hr hx hroom
  have htaken (hg : (s.group e.group).state ≠ .committing) : exec (.commit e a) s =
      .next (((s.heard e.gap (e.parcel 4#4 false a [])).commitGroup e.group e.tag).acknowledge
        (e.parcel 4#4 false a [])) :=
    exec_acknowledged rfl (by simp [Envelope.parcel]) rfl (by simp [Envelope.parcel]) hh
      (State.owns_of_reached hr (by decide) false a [])
      (State.judge_commit_taken (State.dest_ne_zero_of_reached hr) a hx hg hroom)
  refine ⟨fun hg => ?_, fun hg => ?_⟩
  · rw [htaken (by simp [hg]), State.commitGroup_opened (s := s.heard _ _) hg]
    rfl
  · rw [htaken (by simp [hg]), State.commitGroup_empty (s := s.heard _ _) hg]
    rfl

/-- Settles O27: the DISCARD passes every check, and its group being OPEN or EMPTY decides what it does. -/
theorem discardIsTaken : Obligations.DiscardIsTaken := by
  rintro e a s p rfl hh hr hroom
  have htaken (hg : (s.group e.group).state ≠ .committing) : exec (.discard e a) s =
      .next (((s.heard e.gap (e.parcel 5#4 false a [])).discardGroup e.group e.tag).acknowledge
        (e.parcel 5#4 false a [])) :=
    exec_acknowledged rfl (by simp [Envelope.parcel]) rfl (by simp [Envelope.parcel]) hh
      (State.owns_of_reached hr (by decide) false a [])
      (State.judge_discard_taken (State.dest_ne_zero_of_reached hr) a hg hroom)
  refine ⟨fun hg => ?_, fun hg => ?_⟩
  · rw [htaken (by simp [hg]), State.discardGroup_opened (s := s.heard _ _) hg]
    rfl
  · rw [htaken (by simp [hg]), State.discardGroup_empty (s := s.heard _ _) hg]
    rfl

end Sys2Proof.Proofs
end

section
/-! PROOFS. The local executor on the bus: what each edge of LCLK does by executor state and limit, the lanes and pins of a
beat, and COMMAND LOCAL RESET (R121 to R123, R125 to R129, R135). -/

set_option Elab.async false

namespace Sys2Proof.Machine

/-! ### Edges by executor state (R125) -/

/-- In IDLE and RESET an edge does nothing at the executor, whatever is sampled. -/
theorem State.edge_inert {s : State} (hx : s.executor = .idle ∨ s.executor = .reset) (lgnt lerr lwait : Bool)
    (ld : BitVec 64) : s.edge lgnt lerr lwait ld = s := by
  rcases hx with hx | hx <;> simp [State.edge, hx]

section
variable {s : State} {op : Operation} (hp : s.powered = true)
include hp

theorem State.edge_requesting (hx : s.executor = .requesting op) (lgnt lerr lwait : Bool) (ld : BitVec 64) :
    s.edge lgnt lerr lwait ld = s.requestEdge op lgnt := by
  simp [State.edge, hp, hx]

theorem State.edge_transferring (hx : s.executor = .transferring op) (lgnt lerr lwait : Bool) (ld : BitVec 64) :
    s.edge lgnt lerr lwait ld = s.beatEdge op lgnt lerr lwait ld := by
  simp [State.edge, hp, hx]

end

/-! ### Waits and the local limit (R126, R129, R130) -/

theorem limitReached_counted {limit : Byte} {op : Operation} : limitReached limit op.counted = true ↔
    1 ≤ limit.toNat ∧ 16 * limit.toNat ≤ min (op.wait + 1) 4080 := by
  simp [limitReached, Operation.counted]

/-- With no limit in force, or one that the wait count is still below, no wait ends an operation. -/
theorem limitReached_counted_false {limit : Byte} {op : Operation}
    (h : limit = 0#8 ∨ min (op.wait + 1) 4080 < 16 * limit.toNat) : limitReached limit op.counted = false := by
  refine Bool.eq_false_iff.mpr fun hreached => ?_
  obtain ⟨hforce, hcount⟩ := limitReached_counted.mp hreached
  rcases h with rfl | hbelow
  · exact absurd hforce (by decide)
  · omega

section
variable {s : State} {op : Operation}

theorem State.requestEdge_granted :
    s.requestEdge op true = s.enter (.transferring { op with beat := 0, wait := 0 }) := rfl

theorem State.requestEdge_waits (h : limitReached s.limit op.counted = false) :
    s.requestEdge op false = s.enter (.requesting op.counted) := by
  simp [State.requestEdge, h]

theorem State.requestEdge_timesOut (h : limitReached s.limit op.counted = true) :
    s.requestEdge op false = s.finish { op with beat := 0 } (.failed .grantTimeout) := by
  simp [State.requestEdge, h]

theorem State.stretch_waits (h : limitReached s.limit op.counted = false) :
    s.stretch op = s.enter (.transferring op.counted) := by
  simp [State.stretch, h]

theorem State.stretch_timesOut (h : limitReached s.limit op.counted = true) :
    s.stretch op = s.finish op (.failed .waitTimeout) := by
  simp [State.stretch, h]

end

/-! ### The lines of R127's table -/

section
variable (s : State) (op : Operation) (ld : BitVec 64)

theorem State.beatEdge_grantLost (lerr lwait : Bool) :
    s.beatEdge op false lerr lwait ld = s.finish op (.failed .grantLost) := rfl

theorem State.beatEdge_busError (lwait : Bool) :
    s.beatEdge op true true lwait ld = s.finish op (.failed .busError) := rfl

theorem State.beatEdge_stretched : s.beatEdge op true false true ld = s.stretch op := rfl

theorem State.beatEdge_done : s.beatEdge op true false false ld = s.beatDone op ld := rfl

end

theorem Operation.atLast_iff {op : Operation} :
    op.atLast = true ↔ beatCount op.address.toNat op.length ≤ op.beat + 1 := by
  simp [Operation.atLast]

/-- What a done beat gathers, by KIND (R123, R128). -/
theorem Operation.gather_by_kind (op : Operation) (ld : BitVec 64) : op.gather ld =
    { op with gathered := if op.kind = .read then
        op.gathered ++ laneBytes op.address.toNat op.length ((op.address.toNat / 8 + op.beat) * 8) ld
      else op.gathered } := by
  unfold Operation.gather
  split <;> rfl

theorem State.beatDone_next {s : State} {op : Operation} (h : op.beat + 1 < beatCount op.address.toNat op.length)
    (ld : BitVec 64) :
    s.beatDone op ld = s.enter (.transferring { op.gather ld with beat := op.beat + 1, wait := 0 }) :=
  if_neg fun hlast => absurd (Operation.atLast_iff.mp hlast) (by omega)

theorem State.beatDone_last {s : State} {op : Operation} (h : op.beat + 1 = beatCount op.address.toNat op.length)
    (ld : BitVec 64) : s.beatDone op ld = s.finish (op.gather ld) .ok :=
  if_pos (Operation.atLast_iff.mpr h.ge)

/-! ### Pins and lanes of a beat (R121 to R123) -/

/-- The pins in TRANSFERRING, with LA as the beat's 8-byte unit. -/
theorem Operation.pins_eq (op : Operation) : op.pins =
    { lreq := true
      la := BitVec.ofNat 29 (op.address.toNat / 8 + op.beat)
      lbe := byteEnables op.address.toNat op.length ((op.address.toNat / 8 + op.beat) * 8)
      lrw := decide (op.kind = .read)
      ld := if op.kind = .read then none
        else some (laneData op.address.toNat op.length ((op.address.toNat / 8 + op.beat) * 8) op.data) } := by
  have hunit : op.beatAt / 8 = op.address.toNat / 8 + op.beat := Nat.mul_div_cancel _ (by decide)
  rw [Operation.pins, hunit]
  rfl

theorem laneEnabled_iff {a n b k : Nat} : laneEnabled a n b k = true ↔ a ≤ b + k ∧ b + k < a + n := by
  simp [laneEnabled]

/-- A bit of a word gathered by OR over the lanes `ks` that `p` enables. -/
theorem getLsbD_foldl_or {w : Nat} (p : Nat → Bool) (f : Nat → BitVec w) (i : Nat) (ks : List Nat)
    (acc : BitVec w) :
    (ks.foldl (fun acc k => if p k then acc ||| f k else acc) acc).getLsbD i =
      (acc.getLsbD i || ks.any (fun k => p k && (f k).getLsbD i)) := by
  induction ks generalizing acc with
  | nil => simp
  | cons k ks ih =>
    rw [List.foldl_cons, ih]
    cases hk : p k <;> simp [hk, Bool.or_assoc]

/-- Where lane `k` alone can set a bit of the word gathered over the eight lanes, the bit is lane `k`'s. -/
theorem getLsbD_foldl_lanes {w : Nat} (p : Nat → Bool) {f : Nat → BitVec w} {i k : Nat} (hk : k < 8)
    (hother : ∀ j, j ≠ k → (f j).getLsbD i = false) :
    ([0, 1, 2, 3, 4, 5, 6, 7].foldl (fun acc k => if p k then acc ||| f k else acc) 0#w).getLsbD i =
      (p k && (f k).getLsbD i) := by
  rw [getLsbD_foldl_or, BitVec.getLsbD_zero, Bool.false_or, Bool.eq_iff_iff, List.any_eq_true]
  constructor
  · rintro ⟨j, _, hj⟩
    by_cases hjk : j = k
    · exact hjk ▸ hj
    · exact absurd hj (by simp [hother j hjk])
  · exact fun hset => ⟨k, List.mem_range.mpr hk, hset⟩

theorem getLsbD_one_shiftLeft {j k : Nat} (hk : k < 8) : (1#8 <<< j).getLsbD k = decide (j = k) := by
  rw [Bool.eq_iff_iff]
  simp [hk]
  omega

/-- LBE[k] is set exactly for an enabled lane. -/
theorem byteEnables_lane (a n b : Nat) {k : Nat} (hk : k < 8) :
    (byteEnables a n b).getLsbD k = laneEnabled a n b k := by
  rw [byteEnables, getLsbD_foldl_lanes _ hk fun j hj => by simp [getLsbD_one_shiftLeft hk, hj]]
  simp [getLsbD_one_shiftLeft hk]

/-- A byte on lane `j` of LD: bit `i` of lane `k` is the byte's where the lanes are the same, and 0 otherwise. -/
theorem getLsbD_onLane (x : Byte) (j : Nat) {k i : Nat} (hk : k < 8) (hi : i < 8) :
    (x.setWidth 64 <<< (8 * j)).getLsbD (8 * k + i) = (decide (j = k) && x.getLsbD i) := by
  have hbit : 8 * k + i < 64 := by omega
  rcases Nat.lt_trichotomy j k with hlow | rfl | hhigh
  · simp [hlow.ne, BitVec.getLsbD_of_ge x (8 * k + i - 8 * j) (by omega)]
  · simp [hbit]
  · simp [hhigh.ne', show 8 * k + i < 8 * j by omega]

/-- Each lane of a write's LD is the byte of its local address, or zero where the lane is not enabled. -/
theorem laneData_lane (a n b : Nat) (data : List Byte) {k : Nat} (hk : k < 8) :
    (laneData a n b data).extractLsb' (8 * k) 8 = if laneEnabled a n b k then data.getD (b + k - a) 0#8 else 0#8 := by
  refine BitVec.eq_of_getLsbD_eq fun i hi => ?_
  rw [BitVec.getLsbD_extractLsb', laneData,
    getLsbD_foldl_lanes _ hk fun j hj => by simp [getLsbD_onLane _ j hk hi, hj], getLsbD_onLane _ k hk hi]
  cases laneEnabled a n b k <;> simp [hi]

/-- Every byte of the range lies in some beat of the list (R122). -/
theorem beats_cover {a n x : Nat} (hlow : a ≤ x) (hhigh : x < a + n) :
    ∃ i < beatCount a n, (a / 8 + i) * 8 ≤ x ∧ x < (a / 8 + i) * 8 + 8 :=
  ⟨x / 8 - a / 8, by unfold beatCount; omega, by omega, by omega⟩

/-! ### COMMAND LOCAL RESET (R135) -/

/-- LOCAL RESET writes one word, at the COMMAND word, which never fails. -/
theorem controlWords_localReset : controlWords (0x010#32).toNat (wordBytes 4#32) = [(0x010, 4#32)] := by
  decide

theorem State.applyWords_localReset (s : State) : s.applyWords [(0x010, 4#32)] = s.localResetCommand := rfl

/-- The sequence leaves the executor in RESET; the command takes it back to IDLE, whose pins are the same. -/
theorem State.localResetCommand_eq (s : State) : s.localResetCommand =
    { s.localResetSequence with executor := if s.executor = .reset then .reset else .idle } := by
  by_cases hx : s.executor = .reset
  · simp only [State.localResetCommand, State.localHeld, hx, beq_self_eq_true, if_true]
    rfl
  · simp only [State.localResetCommand, State.localHeld_false hx, if_neg hx]
    rfl

end Sys2Proof.Machine

namespace Sys2Proof.Proofs

open Sys2Proof.Machine

/-- Settles O42: the command's one word applies as the local reset sequence, and the WRITE is answered TAKEN. -/
theorem localResetCommandIsMomentary : Obligations.LocalResetCommandIsMomentary := by
  rintro e s p rfl hh ha
  have hwords : ∀ w ∈ controlWords (0x010#32).toNat (wordBytes 4#32), s.wordFails w.1 w.2 = false := by
    rw [controlWords_localReset]
    exact List.forall_mem_singleton.mpr rfl
  have harrive := State.arrive_controlWrite hh ha (by decide) (by decide) (by decide) (by decide) hwords
  rw [controlWords_localReset, State.applyWords_localReset, State.localResetCommand_eq] at harrive
  exact congrArg _ harrive

/-- Settles O45: the executor state and the limit decide the branch of R125 to R129, and the state entered brings its
pins. -/
theorem grantAndWaitEdges : Obligations.GrantAndWaitEdges := by
  intro s hp
  refine ⟨fun op hx => ⟨fun lerr lwait ld => congrArg Host.Outcome.next ?_,
      fun hlimit => congrArg Host.Outcome.next ?_⟩,
    fun op hx hlimit => congrArg Host.Outcome.next ?_, fun hx lerr lwait ld c hc => ?_⟩
  · rw [State.edge_requesting hp hx, State.requestEdge_granted, State.enter, Executor.pins, Operation.pins_eq]
    rfl
  · rw [State.edge_requesting hp hx, State.requestEdge_waits (limitReached_counted_false hlimit)]
    rfl
  · rw [State.edge_transferring hp hx, State.beatEdge_stretched,
      State.stretch_waits (limitReached_counted_false hlimit)]
    rfl
  · simp only [List.mem_cons, List.not_mem_nil, or_false] at hc
    rcases hc with rfl | rfl | rfl | rfl | rfl | rfl | rfl | rfl | rfl <;>
      exact congrArg Host.Outcome.next (State.edge_inert hx _ _ _ _)

/-- Settles O46: a word folded up lane by lane is read back lane by lane, and a byte's beat is its 8-byte unit. -/
theorem lanesOfABeat : Obligations.LanesOfABeat := by
  refine ⟨fun op => ?_, fun a n b data ld k hk => ⟨?_, ?_, ?_⟩, fun a n _ => ⟨rfl, fun x => beats_cover⟩⟩
  · rw [Operation.pins_eq]
    exact ⟨rfl, rfl, rfl, decide_eq_true_iff, rfl⟩
  · rw [byteEnables_lane a n b hk, Bool.eq_iff_iff, laneEnabled_iff, decide_eq_true_iff]
  · simp only [laneData_lane a n b data hk, laneEnabled_iff]
  · have hlanes : laneEnabled a n b = fun k => decide (a ≤ b + k ∧ b + k < a + n) :=
      funext fun k => (Bool.decide_and _ _).symm
    rw [laneBytes, hlanes]
    rfl

/-- Settles O47: the limit reached ends the wait, and the first two lines of R127's table come before the levels they
leave open. -/
theorem failingEdges : Obligations.FailingEdges := by
  intro s hp
  refine ⟨fun op hx hforce hcount => congrArg Host.Outcome.next ?_, fun op hx =>
    ⟨fun hforce hcount => congrArg Host.Outcome.next ?_, fun lerr lwait => congrArg Host.Outcome.next ?_,
      fun lwait => congrArg Host.Outcome.next ?_⟩⟩
  · rw [State.edge_requesting hp hx, State.requestEdge_timesOut (limitReached_counted.mpr ⟨hforce, hcount⟩)]
  · rw [State.edge_transferring hp hx, State.beatEdge_stretched,
      State.stretch_timesOut (limitReached_counted.mpr ⟨hforce, hcount⟩)]
  · rw [State.edge_transferring hp hx, State.beatEdge_grantLost]
  · rw [State.edge_transferring hp hx, State.beatEdge_busError]

/-- Settles O48: both commands are the done line of R127's table, and the beat list decides whether it was the last. -/
theorem beatDoneAndCompletion : Obligations.BeatDoneAndCompletion := by
  rintro s op next ld hp hx rfl
  rw [← Operation.gather_by_kind]
  refine ⟨fun hmore => congrArg Host.Outcome.next ?_, fun hlast => congrArg Host.Outcome.next ?_⟩
  · rw [State.edge_transferring hp hx, State.beatEdge_done, State.beatDone_next hmore]
    rfl
  · rw [State.edge_transferring hp hx, State.beatEdge_done, State.beatDone_last hlast]

end Sys2Proof.Proofs
end

section
/-! PROOFS. The gate and the local limit: STEP taken, unicast or broadcast, and a GATE or LOCAL LIMIT word taken (R141, R142,
R173). -/

set_option Elab.async false

namespace Sys2Proof.Machine

/-! ### The gate (R141, R142) -/

/-- A STEP counts up to 15 credits while HELD. -/
theorem Gate.step_held {g : Gate} (h : g.mode = .held) (c : Nat) :
    g.step c = { mode := .held, credits := min (g.credits + c) 15 } := by
  simp [Gate.step, h, Config.creditCap]

/-- A STEP changes nothing while OPEN. -/
theorem Gate.step_opened {g : Gate} (h : g.mode = .opened) (c : Nat) : g.step c = g := by
  simp [Gate.step, h]

theorem Gate.write_open (g : Gate) : g.write false = { mode := .opened, credits := 0 } := rfl

/-- HELD takes an OPEN gate to no credits and leaves a HELD one as it is. -/
theorem Gate.write_hold (g : Gate) :
    g.write true = if g.mode = .opened then { mode := .held, credits := 0 } else g := by
  cases h : g.mode <;> simp [Gate.write, h]

/-! ### The checks of a STEP (R40, R41) -/

theorem work_step (e : Envelope) (a : Word) (c : Byte) : (e.parcel 7#4 false a [c]).work = .step c.toNat := rfl

theorem formOk_step {e : Envelope} (hd : e.dest ≠ 0#5) (a : Word) {c : Byte} (hmin : 1 ≤ c.toNat) (hmax : c.toNat ≤ 15) :
    (e.parcel 7#4 false a [c]).formOk = true := by
  refine formOk_of ((Parcel.headerOk_step rfl).mpr ⟨rfl, hd, rfl, rfl⟩) ?_
  simp [Parcel.contentOk, Envelope.parcel, Parcel.firstByte, hmin, hmax]

/-- A STEP asks for no window, group or room, and nothing of the local side: its form is its only check. -/
theorem State.judge_step_taken (s : State) {e : Envelope} (hd : e.dest ≠ 0#5) (a : Word) {c : Byte} (hmin : 1 ≤ c.toNat)
    (hmax : c.toNat ≤ 15) : s.judge (e.parcel 7#4 false a [c]) = .taken := by
  rw [State.judge_taken, work_step]
  exact ⟨formOk_step hd a hmin hmax, rfl, rfl, rfl, rfl, rfl, rfl⟩

/-! ### A control WRITE of one word (R48, R56) -/

/-- One word that does not fail, at a mapped address, applies and is answered TAKEN. -/
theorem State.exec_word_taken {s : State} {c : Instr} {e : Envelope} {a x : Word}
    (hc : c.arrival = some (e.gap, e.writeWord a x)) (hh : s.hears e.gap = true) (ha : s.addressed e = true)
    (hrange : controlRangeOk a.toNat 1 = true) (hx : s.wordFails a.toNat x = false) :
    exec c s = .next (((s.heard e.gap (e.writeWord a x)).applyWord a.toNat x).dispose .taken (e.writeWord a x)) := by
  have hwords : ∀ w ∈ controlWords a.toNat (wordBytes x), s.wordFails w.1 w.2 = false := by
    rw [controlWords_wordBytes]
    exact List.forall_mem_singleton.mpr hx
  have harrive := State.arrive_controlWrite hh ha (by simp) (by simp) (by simp) (by rwa [wordBytes_length]) hwords
  rw [controlWords_wordBytes] at harrive
  rw [exec_arrival hc]
  exact congrArg _ harrive

/-- The GATE word sets the gate from its low bit (R141). -/
theorem State.applyWord_gate (s : State) (x : Word) :
    s.applyWord 0x008 x = { s with gate := s.gate.write (x.getLsbD 0) } := rfl

/-- The LOCAL LIMIT word sets L from its low byte (R173). -/
theorem State.applyWord_limit (s : State) (x : Word) :
    s.applyWord 0x00C x = { s with limit := BitVec.ofNat 8 x.toNat } := by
  have hlow : x.extractLsb' 0 8 = BitVec.ofNat 8 x.toNat := by
    apply BitVec.eq_of_toNat_eq
    simp
  rw [← hlow]
  rfl

/-- A GATE word of 0 or 1 does not fail, and its low bit sets the gate. -/
theorem State.exec_gate_taken {s : State} {e : Envelope} {x : Word} (hh : s.hears e.gap = true)
    (ha : s.addressed e = true) (hx : x.toNat ≤ 1) :
    exec (.gate e x) s = .next (
      State.dispose { s.heard e.gap (e.writeWord 0x008#32 x) with gate := s.gate.write (x.getLsbD 0) } .taken
        (e.writeWord 0x008#32 x)) := by
  have hword : s.wordFails 0x008 x = false := by
    rw [← Bool.not_eq_true, State.wordFails_gate]
    omega
  exact State.exec_word_taken (a := 0x008#32) rfl hh ha (by decide) hword

end Sys2Proof.Machine

namespace Sys2Proof.Proofs

open Sys2Proof.Machine

/-- Settles O28: the STEP passes every check, and the gate's mode decides what its credits do. -/
theorem stepGivesCredits : Obligations.StepGivesCredits := by
  rintro e a c s p rfl hh hr hmin hmax
  have htaken : exec (.step e a c) s =
      .next (State.acknowledge { s.heard e.gap (e.parcel 7#4 false a [c]) with gate := s.gate.step c.toNat }
        (e.parcel 7#4 false a [c])) :=
    exec_acknowledged rfl (by simp [Envelope.parcel]) rfl (by simp [Envelope.parcel]) hh
      (State.owns_of_reached hr (by decide) false a [c])
      (State.judge_step_taken s (State.dest_ne_zero_of_reached hr) a hmin hmax)
  refine ⟨fun hg => ?_, fun hg => ?_⟩
  · rw [htaken, Gate.step_held hg]
  · rw [htaken, Gate.step_opened hg]
    rfl

/-- Settles O38: a GATE word of 0 or 1 and a LOCAL LIMIT word of at most 255 do not fail, and each applies alone. -/
theorem gateAndLocalLimitWrites : Obligations.GateAndLocalLimitWrites := by
  intro e x s hh ha
  refine ⟨?_, ?_, fun hx => ?_⟩
  · rintro rfl
    exact State.exec_gate_taken hh ha (by decide)
  · rintro rfl
    rw [← Gate.write_hold]
    exact State.exec_gate_taken hh ha (by decide)
  · have hword : s.wordFails 0x00C x = false := by
      rw [← Bool.not_eq_true, State.wordFails_limit]
      omega
    rw [State.exec_word_taken (c := .localLimit e x) (a := 0x00C#32) rfl hh ha (by decide) hword]
    exact congrArg (fun t => Host.Outcome.next (State.dispose t .taken _)) (State.applyWord_limit _ x)

end Sys2Proof.Proofs
end

section
/-! PROOFS. Sweeps taken (R22, R152 to R156): release and resend item by item, the next item to place, and the parcel that
leaves; and that the local side only adds to the reply unit (R149, R154). -/

set_option Elab.async false

namespace Sys2Proof.Machine

/-! ### A sweep at Intake (R22, R37, R40, R41, R152) -/

theorem work_sweep (e : Envelope) (a : Word) (slots : List Byte) :
    (e.parcel 6#4 false a slots).work = .sweep a slots := rfl

/-- The reserved bits of a sweep's ADDRESS as numbers (R41). -/
theorem sweepZerosOk_iff {a : Word} :
    sweepZerosOk a = true ↔ a.toNat / 2 ^ 9 % 2 ^ 7 = 0 ∧ a.toNat % 2 ^ 8 = 0 := by
  simp only [sweepZerosOk, Bool.and_eq_true, beq_iff_eq, ← BitVec.toNat_inj, toNat_field, BitVec.toNat_ofNat,
    Nat.zero_mod, Nat.pow_zero, Nat.div_one]

theorem formOk_sweep {e : Envelope} {a : Word} {slots : List Byte} (hd : e.dest = 31#5)
    (hl : slots.length ∈ [36, 72, 108, 144]) (hz : sweepZerosOk a = true) :
    (e.parcel 6#4 false a slots).formOk = true :=
  formOk_of ((Parcel.headerOk_sweep rfl).mpr ⟨rfl, by simp [Envelope.parcel, hd], hd, rfl, hl⟩) hz

/-- A sweep asks for no window, group or room, and nothing of the local side: its form is its only check. -/
theorem State.judge_sweep (s : State) {e : Envelope} {a : Word} {slots : List Byte}
    (hform : (e.parcel 6#4 false a slots).formOk = true) : s.judge (e.parcel 6#4 false a slots) = .taken := by
  rw [State.judge_taken, work_sweep]
  exact ⟨hform, rfl, rfl, rfl, rfl, rfl, rfl⟩

/-- A NUMBERED node takes a well-made sweep, which leaves with its slots filled and its take count raised (R22, R152). -/
theorem State.intake_sweep {s : State} {e : Envelope} {a : Word} {slots : List Byte} {n : BitVec 5} (hd : e.dest = 31#5)
    (hn : s.loop.loopState = .numbered n) (hform : (e.parcel 6#4 false a slots).formOk = true) :
    s.intake (e.parcel 6#4 false a slots) =
      { s with
        replies := (s.replies.sweep n a slots).2.1
        tallies := s.tallies.raiseSlots (s.replies.sweep n a slots).2.2 }.forward
        { e.parcel 6#4 false a slots with payload := (s.replies.sweep n a slots).1, mark := e.mark + 1 } := by
  have howns : s.owns (e.parcel 6#4 false a slots) = true :=
    (State.owns_broadcast hd).mpr (.inr ⟨⟨n, hn⟩, by simp [Envelope.parcel]⟩)
  have hnode : nodeNumber s.loop.loopState = n := by rw [hn]; rfl
  rw [State.intake_taken howns (s.judge_sweep hform), broadcast_parcel hd, State.rewritten, work_sweep, ← hnode]
  rfl

/-! ### Release and resend (R153, R155) -/

/-- How far a carrying number lies behind the confirm number, modulo 256 (R153). -/
theorem covers_eq (c n : Byte) : covers c n = !decide (128 ≤ (c.toNat + 256 - n.toNat) % 256) := by
  have hbehind : (c - n).toNat = (c.toNat + 256 - n.toNat) % 256 := by
    rw [BitVec.toNat_sub]
    have := n.isLt
    omega
  rw [covers, hbehind, ← decide_not]
  exact decide_eq_decide.mpr Nat.not_le.symm

/-- What stays behind: every QUEUED item, and a CARRIED one that the confirm number does not cover (R153). -/
theorem not_released_eq (c : Byte) (carrying : Option Byte) :
    (!released c carrying) = carrying.all fun n => 128 ≤ (c.toNat + 256 - n.toNat) % 256 := by
  cases carrying with
  | none => rfl
  | some n => simp [released, covers_eq]

theorem Attention.release_carried (c n : Byte) (again : Bool) :
    (Attention.carried n again).release c =
      if 128 ≤ (c.toNat + 256 - n.toNat) % 256 then .carried n again else if again then .pending else .idle := by
  simp only [Attention.release, covers_eq, Bool.not_eq_true', decide_eq_false_iff_not, ite_not]

theorem Attention.resend_eq (x : Attention) : x.resend = if x = .idle then .idle else .pending := by
  cases x <;> rfl

/-! ### The next item (R156) -/

/-- `carry` marks the first item of a list that is not CARRIED, at its own position. -/
structure CarriesFirst {α : Type} (carrying : α → Option Byte) (mark : α → α) (carry : List α → Option (α × List α)) :
    Prop where
  nil : carry [] = none
  queued : ∀ x xs, carrying x = none → carry (x :: xs) = some (x, mark x :: xs)
  carried : ∀ x xs, carrying x ≠ none → carry (x :: xs) = (carry xs).map fun p => (p.1, x :: p.2)

namespace CarriesFirst

variable {α : Type} {carrying : α → Option Byte} {mark : α → α} {carry : List α → Option (α × List α)}

theorem eq_some (h : CarriesFirst carrying mark carry) {before : List α} {x : α} (hb : ∀ y ∈ before, carrying y ≠ none)
    (hx : carrying x = none) (after : List α) :
    carry (before ++ x :: after) = some (x, before ++ mark x :: after) := by
  induction before with
  | nil => exact h.queued x after hx
  | cons y before ih =>
    obtain ⟨hy, hb⟩ := List.forall_mem_cons.mp hb
    rw [List.cons_append, h.carried y _ hy, ih hb]
    rfl

theorem eq_none (h : CarriesFirst carrying mark carry) {l : List α} (hl : ∀ y ∈ l, carrying y ≠ none) :
    carry l = none := by
  induction l with
  | nil => exact h.nil
  | cons y l ih =>
    obtain ⟨hy, hl⟩ := List.forall_mem_cons.mp hl
    rw [h.carried y l hy, ih hl]
    rfl

end CarriesFirst

theorem carryFault_carriesFirst (n : Byte) :
    CarriesFirst FaultRecord.carrying (fun f => { f with carrying := some n }) (carryFault n) where
  nil := rfl
  queued f fs hf := by rw [carryFault, hf]
  carried f fs hf := by
    obtain ⟨m, hm⟩ := Option.ne_none_iff_exists'.mp hf
    rw [carryFault, hm]

theorem carryReply_carriesFirst (n : Byte) :
    CarriesFirst ReplyEntry.carrying (fun x => { x with carrying := some n }) (carryReply n) where
  nil := rfl
  queued x xs hx := by rw [carryReply, hx]
  carried x xs hx := by
    obtain ⟨m, hm⟩ := Option.ne_none_iff_exists'.mp hx
    rw [carryReply, hm]

section

variable {r : ReplyUnit} {n : Byte}

theorem ReplyUnit.place_attention (h : r.attention = .pending) :
    r.place n = some (.attention, { r with attention := .carried n false }) := by
  rw [ReplyUnit.place, h]

theorem ReplyUnit.place_fault (h : r.attention ≠ .pending) {f : FaultRecord} {faults : List FaultRecord}
    (hf : carryFault n r.faults = some (f, faults)) : r.place n = some (.fault f, { r with faults := faults }) := by
  unfold ReplyUnit.place
  split
  · contradiction
  · rw [hf]

theorem ReplyUnit.place_reply (h : r.attention ≠ .pending) (hf : carryFault n r.faults = none) {x : ReplyEntry}
    {queue : List ReplyEntry} (hx : carryReply n r.queue = some (x, queue)) :
    r.place n = some (.reply x, { r with queue := queue }) := by
  unfold ReplyUnit.place
  split
  · contradiction
  · rw [hf, hx]

theorem ReplyUnit.place_nothing (h : r.attention ≠ .pending) (hf : carryFault n r.faults = none)
    (hx : carryReply n r.queue = none) : r.place n = none := by
  unfold ReplyUnit.place
  split
  · contradiction
  · rw [hf, hx]

end

/-! ### What the local side does to the reply unit (R149, R150, R154) -/

/-- Reply entries and fault records join at the tails alone, and reply use stays. -/
structure ReplyUnit.Grows (r r' : ReplyUnit) : Prop where
  queue : r.queue <+: r'.queue
  faults : r.faults <+: r'.faults
  use : r'.use = r.use

theorem ReplyUnit.Grows.of_eq {r r' : ReplyUnit} (hq : r'.queue = r.queue) (hf : r'.faults = r.faults)
    (hr : r'.reservations = r.reservations) : r.Grows r' :=
  ⟨by rw [hq], by rw [hf], by rw [ReplyUnit.use, hq, hr, ReplyUnit.use]⟩

theorem ReplyUnit.Grows.refl (r : ReplyUnit) : r.Grows r := .of_eq rfl rfl rfl

theorem ReplyUnit.Grows.trans {r r' r'' : ReplyUnit} (h : r.Grows r') (h' : r'.Grows r'') : r.Grows r'' :=
  ⟨h.queue.trans h'.queue, h.faults.trans h'.faults, h'.use.trans h.use⟩

/-- Replies that take up as many reservations leave reply use as it was (R149, R150). -/
theorem ReplyUnit.convert_grows {r : ReplyUnit} {made : List ReplyEntry} (h : made.length ≤ r.reservations) :
    r.Grows { r with queue := r.queue ++ made, reservations := r.reservations - made.length } := by
  refine ⟨⟨made, rfl⟩, by rfl, ?_⟩
  simp only [ReplyUnit.use, List.length_append]
  omega

theorem ReplyUnit.offerFault_grows (r : ReplyUnit) (c : FaultCause) : r.Grows (r.offerFault c) := by
  refine ⟨by rw [r.offerFault_queue], ?_, by simp [ReplyUnit.use]⟩
  rcases r.offerFault_cases c with ⟨_, h⟩ | ⟨_, h⟩
  · rw [h]
    exact ⟨_, rfl⟩
  · rw [h]

/-- A READ in the journal holds a reservation (R150). -/
theorem State.LedgerLaws.reservations_pos_of_read {s : State} (h : s.LedgerLaws) {e : Entry} (he : e ∈ s.journal)
    (hk : e.kind = .read) : 1 ≤ s.replies.reservations := by
  have hread : 0 < s.journal.countP Entry.isRead := List.countP_pos_iff.mpr ⟨e, he, beq_iff_eq.mpr hk⟩
  have := h.reserved
  omega

/-- A group in COMMITTING holds a reservation (R150). -/
theorem State.LedgerLaws.reservations_pos_of_committing {s : State} (h : s.LedgerLaws) {g : BitVec 3}
    (hg : (s.group g).state = .committing) : 1 ≤ s.replies.reservations := by
  have hcommitting : 0 < s.committingCount := List.countP_pos_iff.mpr ⟨g, mem_groupNumbers g, beq_iff_eq.mpr hg⟩
  have := h.reserved
  omega

theorem State.convertReply_grows {s : State} (h : 1 ≤ s.replies.reservations) (tag : Byte) (body : ReplyBody) :
    s.replies.Grows (s.convertReply tag body).replies :=
  ReplyUnit.convert_grows (made := [⟨tag, body, none⟩]) h

/-- A staged completion answers for its group only where the group is COMMITTING (R110, R112). -/
theorem State.accountStaged_grows {s : State} {g : BitVec 3}
    (h : (s.group g).state = .committing → 1 ≤ s.replies.reservations) (tag : Byte) (o : Ending) :
    s.replies.Grows (s.accountStaged g tag o).replies := by
  by_cases hlast : ((s.group g).account tag o).state = .committing ∧ ((s.group g).account tag o).entryCount = 0
  · obtain ⟨hs, hn⟩ := hlast
    rw [State.accountStaged_last hs hn]
    exact State.convertReply_grows (s := s.setGroup g Group.cleared) (h ((Group.account_state _ _ _).symm.trans hs)) _ _
  · rw [State.accountStaged_counted (not_and_or.mp hlast)]
    exact .refl _

theorem State.account_grows {s : State} {e : Entry} (hread : e.kind = .read → 1 ≤ s.replies.reservations)
    (hstaged : ∀ g, (s.group g).state = .committing → 1 ≤ s.replies.reservations) (op : Operation) (o : Ending) :
    s.replies.Grows (s.account e op o).replies := by
  cases hk : e.kind with
  | read =>
    obtain ⟨hok, hfailed⟩ := s.account_read hk op
    cases o with
    | ok => exact hok ▸ State.convertReply_grows (hread hk) _ _
    | failed st => exact hfailed st ▸ State.convertReply_grows (hread hk) _ _
  | posted =>
    obtain ⟨hok, hfailed⟩ := s.account_posted hk op
    cases o with
    | ok => exact hok.symm ▸ .refl _
    | failed st => exact hfailed st ▸ ReplyUnit.offerFault_grows _ _
  | staged g => exact State.account_staged hk s op o ▸ State.accountStaged_grows (hstaged g) _ _

/-- The end of an operation answers by a reservation that its entry or its group holds (R87 to R91). -/
theorem State.finish_grows {s : State} (h : s.LedgerLaws) (op : Operation) (o : Ending) :
    s.replies.Grows (s.finish op o).replies := by
  unfold State.finish
  split
  · exact .refl _
  · next e he =>
    exact State.account_grows (s := { s with journal := s.journal.eraseP Entry.isIssued }.enter .idle)
      (h.reservations_pos_of_read (List.mem_of_find?_eq_some he)) (fun g => h.reservations_pos_of_committing) op o

/-- An edge leaves the reply unit alone unless it ends the operation (R126 to R129). -/
theorem State.Progresses.grows {s t : State} {op : Operation} (ht : s.Progresses op t) (h : s.LedgerLaws) :
    s.replies.Grows t.replies := by
  cases ht with
  | moves => exact .refl _
  | ends op' o => exact State.finish_grows h op' o

theorem State.edge_grows {s : State} (h : s.LedgerLaws) (lgnt lerr lwait : Bool) (ld : BitVec 64) :
    s.replies.Grows (s.edge lgnt lerr lwait ld).replies := by
  rcases s.edge_cases lgnt lerr lwait ld with heq | ⟨op, _, _, heq⟩ | ⟨op, _, _, heq⟩ <;> rw [heq]
  · exact .refl _
  · exact (s.requestEdge_progresses op lgnt).grows h
  · exact (s.beatEdge_progresses op lgnt lerr lwait ld).grows h

theorem State.takeIssue_replies (s : State) : s.takeIssue.replies = s.replies := by
  rcases s.takeIssue_cases with heq | ⟨k, e, _, _, _, _, _, heq⟩ <;> rw [heq]
  rfl

/-- A local reset turns every reservation into a reply, and offers one fault record (R94, R134). -/
theorem State.localResetSequence_grows {s : State} (h : s.LedgerLaws) :
    s.replies.Grows s.localResetSequence.replies := by
  have hmade : s.abandonedReplies.length = s.replies.reservations := s.abandonedReplies_length.trans h.reserved.symm
  exact (ReplyUnit.convert_grows hmade.le).trans (ReplyUnit.offerFault_grows _ _)

/-- Whatever happens at the local side, the reply unit only grows. -/
theorem exec_grows_of_atLocalSide {c : Instr} {s t : State} (hc : c.atLocalSide = true) (h : s.LedgerLaws)
    (ht : exec c s = .next t) : s.replies.Grows t.replies := by
  have next : ∀ {u}, exec c s = .next u → s.replies.Grows u.replies → s.replies.Grows t.replies := fun hu hs => by
    rw [hu] at ht
    exact Host.Outcome.next.inj ht ▸ hs
  cases c with
  | issue => exact next rfl (s.takeIssue_replies ▸ .refl _)
  | grant | beatDone | completion | grantTimeout | waitTimeout | grantLost | busError | grantWaitEdge | beatStretched =>
    exact next rfl (State.edge_grows h _ _ _ _)
  | lrstFall =>
    simp only [exec, execLrstFall] at ht
    split at ht
    · exact Host.Outcome.next.inj ht ▸ .refl _
    · split at ht
      · cases ht
      · exact Host.Outcome.next.inj ht ▸ State.localResetSequence_grows h
  | lrstRise =>
    simp only [exec, execLrstRise] at ht
    split at ht
    · exact Host.Outcome.next.inj ht ▸ .refl _
    · split at ht
      · refine Host.Outcome.next.inj ht ▸ ?_
        split <;> exact .refl _
      · cases ht
  | attnRise =>
    refine next rfl ?_
    split
    · exact .of_eq rfl rfl rfl
    · exact .refl _
  | _ => cases hc

end Sys2Proof.Machine

namespace Sys2Proof.Proofs

open Sys2Proof.Machine

/-- Settles O31: a well-made sweep passes every check of a NUMBERED node, and its three stages are the fill given. -/
theorem sweepIsTaken : Obligations.SweepIsTaken := by
  rintro e a slots n s p ready out rfl hh hd hn hl hreserved hlow rfl rfl
  have hform := formOk_sweep hd hl (sweepZerosOk_iff.mpr ⟨hreserved, hlow⟩)
  have hfits : slots.length ≤ 255 := by
    obtain ⟨_, hmax, _⟩ := sweepLength_iff.mpr hl
    omega
  have harrive := State.arrive_heard (p := e.parcel 6#4 false a slots) hh hfits rfl
  rw [State.intake_sweep hd ((s.heard_loopState _ _).trans hn) hform] at harrive
  exact congrArg _ harrive

/-- Settles O33, item kind by item kind: in each list it is the first QUEUED item that becomes CARRIED. -/
theorem fillPriority : Obligations.FillPriority := by
  intro r n
  have hfaults := carryFault_carriesFirst n
  have hreplies := carryReply_carriesFirst n
  refine ⟨ReplyUnit.place_attention, fun before after f ha hlist hbefore hf => ?_,
    fun before after x ha hnone hlist hbefore hx => ?_, fun ha hnone hempty => ?_⟩
  · exact ReplyUnit.place_fault ha (hlist ▸ hfaults.eq_some hbefore hf after)
  · exact ReplyUnit.place_reply ha (hfaults.eq_none hnone) (hlist ▸ hreplies.eq_some hbefore hx after)
  · exact ReplyUnit.place_nothing ha (hfaults.eq_none hnone) (hreplies.eq_none hempty)

/-- Settles O58: every reply that the local side queues takes up a reservation counted by the laws of accepted work. -/
theorem localSideOnlyConverts : Obligations.LocalSideOnlyConverts := by
  intro c s t hc h ht
  obtain ⟨_, hledger⟩ := State.workLaws_iff.mp h
  obtain ⟨⟨replies, hqueue⟩, ⟨records, hfaults⟩, huse⟩ := exec_grows_of_atLocalSide hc hledger ht
  exact ⟨⟨replies, hqueue.symm⟩, ⟨records, hfaults.symm⟩, huse⟩

/-- Settles O32: which items stay behind, list by list, and what becomes of the attention report. -/
theorem releaseAndResend : Obligations.ReleaseAndResend := by
  refine ⟨fun r c => ?_, fun r => ?_⟩
  · rw [ReplyUnit.release, ReplyUnit.mk.injEq]
    refine ⟨List.filter_congr fun x _ => ?_, rfl, List.filter_congr fun x _ => ?_, rfl, ?_⟩
    · rw [not_released_eq]
      cases x.carrying <;> rfl
    · rw [not_released_eq]
      cases x.carrying <;> rfl
    · cases r.attention with
      | idle | pending => rfl
      | carried n again => exact Attention.release_carried c n again
  · rw [ReplyUnit.resend, Attention.resend_eq]

end Sys2Proof.Proofs
end

section
/-! PROOFS. A rising edge of ATTN: what it makes of the attention report in each of its states (R168). -/

set_option Elab.async false

namespace Sys2Proof.Machine

@[simp] theorem Attention.rise_idle : Attention.idle.rise = .pending := rfl

@[simp] theorem Attention.rise_pending : Attention.pending.rise = .pending := rfl

@[simp] theorem Attention.rise_carried (n : Byte) (again : Bool) :
    (Attention.carried n again).rise = .carried n true := rfl

/-- With power on, ATTN_RISE acts on the attention report alone. -/
theorem exec_attnRise_powered {s : State} (hp : s.powered = true) :
    exec .attnRise s = .next { s with replies := { s.replies with attention := s.replies.attention.rise } } := by
  simp only [exec, execAttnRise, hp, if_true]

end Sys2Proof.Machine

namespace Sys2Proof.Proofs

open Sys2Proof.Machine

/-- Settles O51, by the state of the attention report before the edge. -/
theorem attnRiseAsksForAttention : Obligations.AttnRiseAsksForAttention := by
  intro s hp
  rw [exec_attnRise_powered hp]
  cases s.replies.attention with
  | idle => rw [Attention.rise_idle]
  | pending => rw [Attention.rise_pending]
  | carried n again => rw [Attention.rise_carried]

end Sys2Proof.Proofs
end

section
/-! PROOFS. The queue of waiting commands: a step takes the front command off it, and no command reads or writes it (log
entry 4). Every named operation on the node commutes with putting another queue in place. -/

set_option Elab.async false

namespace Sys2Proof.Machine

/-- The node with another queue of waiting commands. -/
def State.withPending (q : List Instr) (s : State) : State := { s with pending := q }

/-- An operation on the node neither reads nor writes the queue of waiting commands. -/
def IgnoresPending (f : State → State) : Prop :=
  ∀ (s : State) (q : List Instr), f (s.withPending q) = (f s).withPending q

/-! ### What putting another queue in place leaves unchanged -/

@[simp] theorem State.withPending_journal (s : State) (q : List Instr) : (s.withPending q).journal = s.journal := rfl
@[simp] theorem State.withPending_executor (s : State) (q : List Instr) : (s.withPending q).executor = s.executor := rfl
@[simp] theorem State.withPending_judge (s : State) (q : List Instr) (p : Parcel) :
    (s.withPending q).judge p = s.judge p := rfl
@[simp] theorem State.withPending_controlWord (s : State) (q : List Instr) (a : Nat) :
    (s.withPending q).controlWord a = s.controlWord a := rfl

/-- A function comes out of a branch once it does so on either side. No condition the model branches on looks at the
queue, so with `State.withPending q` as the function this is the one step of every operation that branches. -/
theorem ite_eq_apply {α β : Type} {f : α → β} {c : Prop} [Decidable c] {x y : α} {x' y' : β} (hx : x' = f x)
    (hy : y' = f y) : (if c then x' else y') = f (if c then x else y) := by
  rw [hx, hy, apply_ite f]

/-! ### The loop port (R1 to R4) -/

theorem listen_ignoresPending (gap len : Nat) {judge : State → State} (h : IgnoresPending judge) :
    IgnoresPending (listen gap len judge) :=
  fun _ _ => ite_eq_apply rfl <| ite_eq_apply rfl <| ite_eq_apply rfl (h (State.pass _ _) _)

theorem arriveRun_ignoresPending (gap : Nat) (run : List Byte) {judge : State → State} (h : IgnoresPending judge) :
    IgnoresPending (arriveRun gap run judge) :=
  have cut : IgnoresPending (cutOverlong run) := fun _ _ => rfl
  fun s q => ite_eq_apply (listen_ignoresPending gap _ cut s q) (listen_ignoresPending gap _ h s q)

theorem dropAtFirstByte_ignoresPending (gap : Nat) : IgnoresPending (dropAtFirstByte gap) :=
  fun _ _ => ite_eq_apply rfl <| ite_eq_apply rfl <| ite_eq_apply rfl rfl

theorem lfiFall_ignoresPending (discarded : Nat) : IgnoresPending (lfiFall discarded) :=
  fun _ _ => ite_eq_apply rfl rfl

/-! ### Groups and replies (chapters 6 and 9) -/

theorem State.commitGroup_withPending (s : State) (g : BitVec 3) (tag : Byte) (q : List Instr) :
    (s.withPending q).commitGroup g tag = (s.commitGroup g tag).withPending q := ite_eq_apply rfl rfl

theorem State.discardGroup_withPending (s : State) (g : BitVec 3) (tag : Byte) (q : List Instr) :
    (s.withPending q).discardGroup g tag = (s.discardGroup g tag).withPending q := ite_eq_apply rfl rfl

theorem State.accountStaged_withPending (s : State) (g : BitVec 3) (tag : Byte) (o : Ending) (q : List Instr) :
    (s.withPending q).accountStaged g tag o = (s.accountStaged g tag o).withPending q := ite_eq_apply rfl rfl

/-! ### The local executor (chapter 7) -/

theorem State.takeIssue_ignoresPending : IgnoresPending State.takeIssue := by
  refine fun s q => ite_eq_apply ?_ rfl
  rw [State.withPending_journal]
  cases oldestReady s.journal with
  | none => rfl
  | some k =>
    dsimp only
    cases s.journal[k]? with
    | none | some e => rfl

theorem State.account_withPending (s : State) (e : Entry) (op : Operation) (o : Ending) (q : List Instr) :
    (s.withPending q).account e op o = (s.account e op o).withPending q := by
  cases o with
  | ok | failed =>
    simp only [State.account]
    cases e.kind with
    | read | posted => rfl
    | staged g => exact s.accountStaged_withPending g e.tag _ q

theorem State.finish_withPending (s : State) (op : Operation) (o : Ending) (q : List Instr) :
    (s.withPending q).finish op o = (s.finish op o).withPending q := by
  simp only [State.finish, State.withPending_journal]
  cases s.journal.find? Entry.isIssued with
  | none => rfl
  | some e => exact ({ s with journal := s.journal.eraseP Entry.isIssued }.enter .idle).account_withPending e op o q

theorem State.requestEdge_withPending (s : State) (op : Operation) (lgnt : Bool) (q : List Instr) :
    (s.withPending q).requestEdge op lgnt = (s.requestEdge op lgnt).withPending q :=
  ite_eq_apply rfl (ite_eq_apply (s.finish_withPending _ _ q) rfl)

theorem State.beatDone_withPending (s : State) (op : Operation) (ld : BitVec 64) (q : List Instr) :
    (s.withPending q).beatDone op ld = (s.beatDone op ld).withPending q :=
  ite_eq_apply (s.finish_withPending _ _ q) rfl

theorem State.stretch_withPending (s : State) (op : Operation) (q : List Instr) :
    (s.withPending q).stretch op = (s.stretch op).withPending q :=
  ite_eq_apply (s.finish_withPending _ _ q) rfl

theorem State.beatEdge_withPending (s : State) (op : Operation) (lgnt lerr lwait : Bool) (ld : BitVec 64)
    (q : List Instr) :
    (s.withPending q).beatEdge op lgnt lerr lwait ld = (s.beatEdge op lgnt lerr lwait ld).withPending q :=
  ite_eq_apply (s.finish_withPending _ _ q) <| ite_eq_apply (s.finish_withPending _ _ q) <|
    ite_eq_apply (s.stretch_withPending op q) (s.beatDone_withPending op ld q)

theorem State.edge_ignoresPending (lgnt lerr lwait : Bool) (ld : BitVec 64) :
    IgnoresPending (State.edge · lgnt lerr lwait ld) := by
  refine fun s q => ite_eq_apply ?_ rfl
  rw [State.withPending_executor]
  cases s.executor with
  | idle | reset => rfl
  | requesting op => exact s.requestEdge_withPending op lgnt q
  | transferring op => exact s.beatEdge_withPending op lgnt lerr lwait ld q

theorem State.localResetCommand_withPending (s : State) (q : List Instr) :
    (s.withPending q).localResetCommand = s.localResetCommand.withPending q := ite_eq_apply rfl rfl

theorem State.powerFail_ignoresPending : IgnoresPending State.powerFail := fun _ _ => ite_eq_apply rfl rfl

/-! ### Control space (chapter 11) -/

theorem State.command_withPending (s : State) (value : Nat) (q : List Instr) :
    (s.withPending q).command value = (s.command value).withPending q := by
  unfold State.command
  split
  · rfl
  · rfl
  · rfl
  · exact s.localResetCommand_withPending q
  · rfl

theorem State.applyWord_withPending (s : State) (a : Nat) (x : Word) (q : List Instr) :
    (s.withPending q).applyWord a x = (s.applyWord a x).withPending q :=
  ite_eq_apply rfl <| ite_eq_apply rfl <| ite_eq_apply (s.command_withPending x.toNat q) rfl

theorem State.applyWords_withPending (s : State) (words : List (Nat × Word)) (q : List Instr) :
    (s.withPending q).applyWords words = (s.applyWords words).withPending q :=
  List.foldl_hom (State.withPending q) (fun s w => s.applyWord_withPending w.1 w.2 q)

theorem State.capture_withPending (s : State) (a n : Nat) (q : List Instr) :
    (s.withPending q).capture a n = s.capture a n := by
  induction n generalizing a with
  | zero => rfl
  | succ n ih => simp only [State.capture, State.withPending_controlWord, ih]

theorem State.takeControlRead_withPending (s : State) (tag : Byte) (a n : Nat) (q : List Instr) :
    (s.withPending q).takeControlRead tag a n = (s.takeControlRead tag a n).withPending q := by
  simp only [State.takeControlRead, State.capture_withPending]
  rfl

/-! ### Intake (chapter 3) -/

theorem State.handOn_withPending (s : State) (tag : Byte) (w : Work) (q : List Instr) :
    (s.withPending q).handOn tag w = (s.handOn tag w).withPending q := by
  cases w with
  | commit g => exact s.commitGroup_withPending g tag q
  | discard g => exact s.discardGroup_withPending g tag q
  | controlWrite words => exact s.applyWords_withPending words q
  | controlRead a n => exact s.takeControlRead_withPending tag a n q
  | memoryRead | memoryWrite | stage | sweep | step | number | loopReset => rfl

theorem State.intake_withPending (s : State) (p : Parcel) (q : List Instr) :
    (s.withPending q).intake p = (s.intake p).withPending q := by
  refine ite_eq_apply ?_ rfl
  rw [State.withPending_judge]
  cases s.judge p with
  | taken =>
    have hwork := s.handOn_withPending p.tag p.work q
    have broadcast := congrArg (State.forward · { s.rewritten p with mark := p.mark + 1 }) hwork
    have unicast := congrArg (State.dispose · .taken p) hwork
    exact ite_eq_apply rfl (ite_eq_apply broadcast unicast)
  | _ => exact ite_eq_apply rfl rfl

theorem State.receive_withPending (s : State) (p : Parcel) (c : Half) (q : List Instr) :
    (s.withPending q).receive p c = (s.receive p c).withPending q :=
  ite_eq_apply rfl <| ite_eq_apply rfl (s.intake_withPending p q)

theorem State.judgeRun_ignoresPending (run : List Byte) : IgnoresPending (State.judgeRun · run) := by
  intro s q
  simp only [State.judgeRun]
  cases readParcel run with
  | none => rfl
  | some pc => exact s.receive_withPending pc.1 pc.2 q

theorem State.arriveBytes_ignoresPending (gap : Nat) (run : List Byte) :
    IgnoresPending (State.arriveBytes · gap run) := by
  intro s q
  cases run with
  | nil => rfl
  | cons b rest => exact arriveRun_ignoresPending gap (b :: rest) (State.judgeRun_ignoresPending (b :: rest)) s q

/-! ### Commands -/

/-- An outcome whose next state, where it has one, gets another queue. -/
def withPendingNext (q : List Instr) : Host.Outcome State Fault Refusal → Host.Outcome State Fault Refusal
  | .next t => .next (t.withPending q)
  | .fault f => .fault f
  | .refused r => .refused r

/-- A command that never stops answers as the operation it stands for. -/
theorem exec_withPending_of_next {c : Instr} {f : State → State} (hc : ∀ s, exec c s = .next (f s))
    (hf : IgnoresPending f) (s : State) (q : List Instr) :
    exec c (s.withPending q) = withPendingNext q (exec c s) := by
  rw [hc, hc, hf]
  rfl

/-- Whatever command is executed, the queue passes through to its outcome. LRST_FALL and LRST_RISE are the two that can
stop with a fault. -/
theorem exec_withPending (c : Instr) (s : State) (q : List Instr) :
    exec c (s.withPending q) = withPendingNext q (exec c s) := by
  have next : ∀ {f : State → State}, (∀ s, exec c s = .next (f s)) → IgnoresPending f → _ :=
    fun hc hf => exec_withPending_of_next hc hf s q
  cases c with
  | powerOn => exact next (fun _ => rfl) (fun _ _ => rfl)
  | supplyBelowRange => exact next (fun _ => rfl) State.powerFail_ignoresPending
  | runDropped gap => exact next (fun _ => rfl) (dropAtFirstByte_ignoresPending gap)
  | lfiFalls n => exact next (fun _ => rfl) (lfiFall_ignoresPending n)
  | parcelSend | attnRise => exact next (fun _ => rfl) (fun _ _ => ite_eq_apply rfl rfl)
  | issue => exact next (fun _ => rfl) State.takeIssue_ignoresPending
  | grant | beatDone | completion | grantTimeout | waitTimeout | grantLost | busError | grantWaitEdge | beatStretched =>
    exact next (fun _ => rfl) (State.edge_ignoresPending _ _ _ _)
  | lrstFall => exact ite_eq_apply rfl (ite_eq_apply rfl rfl)
  | lrstRise => exact ite_eq_apply rfl (ite_eq_apply (congrArg Host.Outcome.next (ite_eq_apply rfl rfl)) rfl)
  | _ => exact next (exec_brings_bytes rfl) (State.arriveBytes_ignoresPending _ _)

theorem step_front (c : Instr) (rest : List Instr) (s : State) :
    step (s.withPending (c :: rest)) = exec c (s.withPending rest) := rfl

end Sys2Proof.Machine

namespace Sys2Proof.Proofs

open Sys2Proof.Machine

/-- Settles O3, by the operation each command stands for. -/
theorem commandsIgnoreTheQueue : Obligations.CommandsIgnoreTheQueue := by
  intro c q s
  refine (exec_withPending c s q).trans ?_
  cases exec c s <;> rfl

/-- Settles O1: the front command meets the node with the rest of the queue. -/
theorem stepRunsTheFrontCommand : Obligations.StepRunsTheFrontCommand := fun c rest s => step_front c rest s

end Sys2Proof.Proofs
end
